-- ==== Sys2Proof/Word.lean ====
section
/-!
DEFINITION. The words that cross a link of the part: bytes and 16-bit values (10_formats.md, R175).
Positions, areas, speeds, angles and times are quantities, not words, and are natural numbers in the model.
-/

namespace Sys2Proof

/-- One byte of a port frame, of the weather link or of a drive line. -/
abbrev Byte := BitVec 8

/-- A 16-bit value of a frame: a tag, a selector half, an item of the Window Engine, a notice mask (R175). -/
abbrev Word16 := BitVec 16

end Sys2Proof
end

