-- ==== Sys2Proof/Syntax.lean ====
section
/-!
DEFINITION. The commands and events of the Astilon AS-192, one constructor of `Instr` per row of spec/opcode_table.json.
The part is a block: it fetches nothing. Masters, the weather station, the actuators, the pins and the part's own timers
send it these events, and each event is one whole step (spec/95_what_each_step_holds.md).
-/

namespace Sys2Proof

/-- A slot index, 0–191: row × 16 + column (R1). -/
abbrev SlotId := Fin 192

/-- A smoke zone, 0–7 (R5). -/
abbrev ZoneId := Fin 8

/-- The four drive lines (R6). -/
inductive LineId where
  | a | b | c | d
  deriving DecidableEq, Repr

/-- The three master ports (chapter 8): fire card, building gateway, override panel. -/
inductive PortId where
  | f | b | o
  deriving DecidableEq, Repr

/-- The commands of the block. A command row (READ_STATUS … CFG_DONE, DATA and DRAIN) is the taking of that command at the
end of a write frame of port `p`; the frame rows (PORT_START … PORT_STOP) build the same command byte by byte.
Operands are the bytes and words the frame carries, unchecked: ranges are checked by the block that takes the command. -/
inductive Instr where
  /-- HARDWARE_RESET (R173): power-on or release of the reset pin, with the value read from the two strap pins. -/
  | hardwareReset (strap : BitVec 2)
  /-- PORT_START (R158). -/
  | portStart (p : PortId)
  /-- ADDRESS_BYTE (R158): seven address bits and the direction bit (bit 0, 1 for read). -/
  | addressByte (p : PortId) (byte : Byte)
  /-- WRITE_DATA_BYTE (R159). -/
  | writeDataByte (p : PortId) (byte : Byte)
  /-- READ_DATA_BYTE (R161): the master clocks one byte of a read frame out of the part. -/
  | readDataByte (p : PortId)
  /-- PORT_RESTART (R158). -/
  | portRestart (p : PortId)
  /-- PORT_STOP (R158). -/
  | portStop (p : PortId)
  /-- HOLD_TIMER_EXPIRY (R163). -/
  | holdTimerExpiry (p : PortId)
  /-- REPLY_READY (R162). -/
  | replyReady (p : PortId)
  /-- READ_STATUS (R164). -/
  | readStatus (p : PortId)
  /-- ACK_NOTICE (R167). -/
  | ackNotice (p : PortId) (mask : Word16)
  /-- QUERY_VENTS (R18). -/
  | queryVents (p : PortId) (sel mask : Word16) (start : Byte)
  /-- QUERY_ZONES (R66). -/
  | queryZones (p : PortId)
  /-- QUERY_WEATHER (R88). -/
  | queryWeather (p : PortId)
  /-- QUERY_LINES (R165). -/
  | queryLines (p : PortId)
  /-- ALARM (R43). -/
  | alarm (p : PortId) (zone : Byte)
  /-- CLEAR (R44). -/
  | clear (p : PortId) (zone : Byte)
  /-- CLEAR_ALL (R45). -/
  | clearAll (p : PortId)
  /-- OVERRIDE (R24). -/
  | override (p : PortId) (zoneMask mode : Byte)
  /-- FAULT_CLEAR (R103). -/
  | faultClear (p : PortId) (sel mask : Word16)
  /-- CLAIM (R34). -/
  | claim (p : PortId) (sel mask value : Word16)
  /-- RELEASE (R35). -/
  | release (p : PortId) (sel mask : Word16)
  /-- WINDOW_SET (R137). -/
  | windowSet (p : PortId) (xs xe ys ye flags : Byte)
  /-- PATTERN_LOAD (R143): the values in the order tile[0][0], tile[0][1], … -/
  | patternLoad (p : PortId) (values : List Word16)
  /-- OP_FILL (R142). -/
  | opFill (p : PortId) (value : Word16)
  /-- OP_PATTERN (R143). -/
  | opPattern (p : PortId)
  /-- OP_COPY (R144). -/
  | opCopy (p : PortId) (row col : Byte)
  /-- OP_EXPAND (R145): F, B and the keyed byte. -/
  | opExpand (p : PortId) (fore back : Word16) (keyed : Byte)
  /-- OP_BLOCK (R146). -/
  | opBlock (p : PortId)
  /-- OP_MASK (R147): function code and F. -/
  | opMask (p : PortId) (code : Byte) (fore : Word16)
  /-- OP_READ (R152). -/
  | opRead (p : PortId) (kind : Byte)
  /-- OP_ABORT (R154). -/
  | opAbort (p : PortId)
  /-- DATA (R149): the item bytes of one DATA frame. -/
  | data (p : PortId) (bytes : List Byte)
  /-- DRAIN (R153). -/
  | drain (p : PortId)
  /-- ITEM_TAKE (R150). -/
  | itemTake
  /-- SCAN_VISIT (R140). -/
  | scanVisit
  /-- READ_ITEM_PRODUCE (R152). -/
  | readItemProduce
  /-- FEED_TIMER_EXPIRY (R151). -/
  | feedTimerExpiry
  /-- LINE_STANDBY (R110). -/
  | lineStandby (p : PortId) (line : Byte)
  /-- LINE_WAKE (R112). -/
  | lineWake (p : PortId) (line : Byte)
  /-- STANDBY_DWELL_EXPIRY (R112). -/
  | standbyDwellExpiry (l : LineId)
  /-- WAKE_TIMER_EXPIRY (R111). -/
  | wakeTimerExpiry (l : LineId)
  /-- WARM_RESTART (R174). -/
  | warmRestart (p : PortId)
  /-- CFG_WRITE (R170): table, index and the bytes of one record. -/
  | cfgWrite (p : PortId) (table : Byte) (index : Word16) (bytes : List Byte)
  /-- CFG_READ (R171). -/
  | cfgRead (p : PortId) (table : Byte) (index : Word16)
  /-- CFG_DONE (R172). -/
  | cfgDone (p : PortId)
  /-- WEATHER_BYTE (R68). -/
  | weatherByte (byte : Byte)
  /-- FRAMING_ERROR (R69). -/
  | framingError
  /-- GAP_EXPIRY (R69). -/
  | gapExpiry
  /-- STALE_TIMER_EXPIRY (R75). -/
  | staleTimerExpiry
  /-- DEADLINE_EXPIRY (R60). -/
  | deadlineExpiry (z : ZoneId)
  /-- POLL_TIMER_EXPIRY (R97). -/
  | pollTimerExpiry (i : SlotId)
  /-- TRAVEL_TIMER_EXPIRY (R99). -/
  | travelTimerExpiry (i : SlotId)
  /-- DWELL_TIMER_EXPIRY (R101). -/
  | dwellTimerExpiry (i : SlotId)
  /-- END_OF_REQUEST (R119). -/
  | endOfRequest (l : LineId)
  /-- DRIVE_LINE_REPLY (R120): the five bytes of a reply, in order of arrival. -/
  | driveLineReply (l : LineId) (addr flags posHi posLo check : Byte)
  /-- REPLY_GAP_EXPIRY (R120). -/
  | replyGapExpiry (l : LineId)
  /-- REPLY_TIMER_EXPIRY (R122). -/
  | replyTimerExpiry (l : LineId)
  /-- LINE_RESET_TIMER_EXPIRY (R132). -/
  | lineResetTimerExpiry (l : LineId)
  /-- PROBE_TIMER_EXPIRY (R126). -/
  | probeTimerExpiry (i : SlotId)
  /-- IDLE_POLL_TIMER_EXPIRY (R128). -/
  | idlePollTimerExpiry (i : SlotId)
  /-- RESET_PIN_ASSERTED (R173). -/
  | resetPinAsserted
  /-- LINE_BYTE_RECEIVED (R120). -/
  | lineByteReceived (l : LineId) (byte : Byte)
  deriving DecidableEq, Repr

end Sys2Proof
end

