-- ==== Sys2Proof/Decode.lean ====
section
/-!
DEFINITION. The decoder over the bits of spec/opcode_table.json. The table gives no row any bits ("fields": [] and no
"fixed" in every row; spec/98_reader.md: 63 rows unread), because the part takes events, not instruction words: no word
spells a command.
-/

namespace Sys2Proof

/-- No row of the table gives bits, so no word of any length spells a command. -/
def decodeTableWord (_nbits _w : Nat) : Option Instr := none

end Sys2Proof
end

