-- ==== Sys2Proof/Config.lean ====
section
/-!
DEFINITION. What the spec leaves open: the free values of the model. They have no body, so nothing can be proved from a
particular value of them.
-/

namespace Sys2Proof

/-- How many records of the reply being prepared have been captured once the `event`-th event after the take of the
`take`-th query has had its effect. The spec says only that the records are captured one after another between the take and
the end of preparation, and that events may take effect between two captures (R17, R66, R162, R165); notes/assumptions/5.md. -/
opaque Config.captureSchedule (take event : Nat) : Nat

end Sys2Proof
end

