-- ==== Sys2Proof/WellFormed.lean ====
section
/-!
DEFINITION. Which commands a master can put on the wire. The operand types already bound slots, zones, lines, ports and
bytes; what is left is the length of the two variable-length parameter lists, since an input buffer holds at most 128
parameter bytes (R157, R159). Every command has a meaning whether or not it is well formed.
-/

namespace Sys2Proof

/-- The most parameter bytes one write frame can carry to the input buffer (R157). -/
def maxParams : Nat := 128

/-- A CFG_WRITE spends one byte on the table and two on the index (R176); a PATTERN_LOAD value takes two bytes. -/
def Instr.wf : Instr → Bool
  | .cfgWrite _ _ _ bytes => decide (3 + bytes.length ≤ maxParams)
  | .patternLoad _ values => decide (2 * values.length ≤ maxParams)
  | _ => true

end Sys2Proof
end

