-- ==== Sys2Proof/Machine/State.lean ====
section
/-!
DEFINITION. The state of the Astilon AS-192 as plain data, and the state right after a hardware reset. Each structure
names the rule of spec/ that gives it; INVENTORY.md lists every field with its reset value.
-/

namespace Sys2Proof.Machine

/-! ## Fixed sets of names (codes: R175) -/

/-- The part's mode (R168). -/
inductive Mode where
  | unconfigured | run
  deriving DecidableEq, Repr

/-- Vent class (R4): smoke vent, comfort window, inlet window. -/
inductive VentClass where
  | sv | cw | iw
  deriving DecidableEq, Repr

/-- Facing of an opening (R7); FLAT is distinct from every angle. -/
inductive Facing where
  | flat
  | angle (tenths : Nat)
  deriving DecidableEq, Repr

/-- Zone action (R48, R50). -/
inductive Action where
  | none | exhaust | inlet | close
  deriving DecidableEq, Repr

/-- Zone status (R61). -/
inductive Status where
  | quiet | opening | confirmed | shortfall
  deriving DecidableEq, Repr

/-- Override mode of a zone (R23). -/
inductive OverrideMode where
  | auto | open | close | hold
  deriving DecidableEq, Repr

/-- The layer a composed target came from (R19, R20). -/
inductive Source where
  | rest | bms | fire | ovr
  deriving DecidableEq, Repr

/-- Wind class (R84). -/
inductive WindClass where
  | calm | windward | cross | leeward
  deriving DecidableEq, Repr

/-- Link state (R125-R129). -/
inductive Link where
  | unmapped | offline | profiling | online
  deriving DecidableEq, Repr

/-- The fire value of a slot (R29): absent, 0 or 1000. -/
inductive FireValue where
  | absent | shut | full
  deriving DecidableEq, Repr

/-- What follows a STOP (R100). -/
inductive Continuation where
  | release | reversal | preemption
  deriving DecidableEq, Repr

/-- Motion state of a slot (R92-R102); STOPPING carries its continuation. -/
inductive Motion where
  | detached | idle | queued | starting | moving
  | stopping (next : Continuation)
  | dwell | fault
  deriving DecidableEq, Repr

/-- Fault code of a slot (R12, R93). -/
inductive FaultCode where
  | none | travelTimeout | obstructed | overcurrent | overtemp | stalled | profileRefused | moveRefused
  deriving DecidableEq, Repr

/-- Direction of a needed move (R90). -/
inductive Direction where
  | opening | closing
  deriving DecidableEq, Repr

/-- Power state of a line (R109). -/
inductive Power where
  | active | standby | waking
  deriving DecidableEq, Repr

/-- Line state (R115). -/
inductive LineState where
  | run | lreset
  deriving DecidableEq, Repr

/-- Storm and rain states (R82, R83). -/
inductive Tri where
  | inactive | active | unknown
  deriving DecidableEq, Repr

/-- Outcome of the last Window Engine operation (R136). -/
inductive EngOutcome where
  | none | complete | truncatedTimeout | truncatedAbort | truncatedRestart
  deriving DecidableEq, Repr

/-- Status code of a reply (R160). -/
inductive StatusCode where
  | ok | part | denied | badCommand | badParam | badConfig | locked | notReady | busy | pending
  deriving DecidableEq, Repr

/-- A timer: STOPPED, or RUNNING with the milliseconds that remain. -/
inductive Timer where
  | stopped
  | running (ms : Nat)
  deriving DecidableEq, Repr

/-- A zone's deadline timer (R60). -/
inductive Deadline where
  | stopped
  | running (ms : Nat)
  | expired
  deriving DecidableEq, Repr

/-! ## Configuration tables (R169) -/

/-- Configuration part of a slot's record (R3), with its hardware-reset values. -/
structure VentCfg where
  mapped : Bool := false
  line : LineId := .a
  bus : Nat := 1
  cls : VentClass := .sv
  zone : ZoneId := 0
  facing : Facing := .flat
  freeArea : Nat := 1
  deadband : Nat := 10
  rest : Nat := 0
  travelLimit : Nat := 90
  tag : Word16 := 0
  bcastRefuse : Bool := false
  deriving DecidableEq, Repr

/-- One profile entry (R10). -/
structure ProfileEntry where
  attrId : Byte := 0
  value : Word16 := 0
  valid : Bool := false
  deriving DecidableEq, Repr

/-- A ZONE record (R49). -/
structure ZoneCfg where
  areq : Nat := 0
  deadline : Nat := 60
  windSelect : Bool := true
  deriving DecidableEq, Repr

/-- A LINE record: MOTION's settings (R104) and the controller's (R116). -/
structure LineCfg where
  kNorm : Nat := 2
  kFire : Nat := 4
  movePoll : Nat := 2
  revDwell : Nat := 10
  wakeTime : Nat := 5
  timeoutCode : Nat := 4
  attempts : Nat := 3
  idlePoll : Nat := 5
  probe : Nat := 10
  failLimit : Nat := 4
  resetCode : Nat := 49
  deriving DecidableEq, Repr

/-- The WEATHER record (R67). -/
structure WeatherCfg where
  staleTime : Nat := 10
  k : Nat := 3
  vOn : Nat := 30
  vOff : Nat := 20
  vStorm : Nat := 150
  rainHold : Nat := 120
  cWind : Nat := 300
  wHalf : Nat := 600
  lHalf : Nat := 600
  deriving DecidableEq, Repr

/-- A PORT record (R157, R33). -/
structure PortCfg where
  addr : BitVec 7
  mask : BitVec 7 := 0x7F
  holds : Bool := true
  holdMax : Nat := 25
  enables : Word16 := 0x03FF
  policy : Fin 4 := 0
  deriving DecidableEq, Repr

/-- A POLICY record (R33): for each vent class, claim-allowed and fault-clear-allowed. -/
structure PolicyCfg where
  claimSv : Bool := true
  claimCw : Bool := true
  claimIw : Bool := true
  clearSv : Bool := true
  clearCw : Bool := true
  clearIw : Bool := true
  deriving DecidableEq, Repr

/-- The eight configuration tables (R169). -/
structure Tables where
  vents : Vector VentCfg 192
  profiles : Vector (Vector ProfileEntry 8) 192
  zones : Vector ZoneCfg 8
  plan : Vector (Vector Action 8) 8
  lines : Vector LineCfg 4
  weather : WeatherCfg
  ports : Vector PortCfg 3
  policies : Vector PolicyCfg 3
  deriving DecidableEq, Repr

/-! ## Runtime state of a slot -/

/-- Runtime part of a slot's record (R12), with MOTION's and the controller's per-slot state (R91, R96, R115). The defaults
are the hardware-reset values of R14, R91, R113 and R134; no rule gives one for `dir` and `deferred` (DESIGN CHOICE none and no,
notes/assumptions/7.md). -/
structure Slot where
  bms : Option Nat := none
  hold : Option Nat := none
  fire : FireValue := .absent
  target : Option Nat := none
  source : Source := .rest
  windClass : WindClass := .calm
  ceiling : Nat := 0
  link : Link := .unmapped
  position : Option Nat := none
  flags : Byte := 0
  motion : Motion := .detached
  fault : FaultCode := .none
  permit : Bool := false
  entryTime : Option Nat := none
  cls : Option (Fin 3) := none
  dir : Option Direction := none
  travel : Timer := .stopped
  poll : Timer := .stopped
  dwell : Timer := .stopped
  stoppedShort : Nat := 0
  deferred : Bool := false
  idlePoll : Timer := .stopped
  probe : Timer := .stopped
  profileNext : Option (Fin 8) := none
  refusedMark : Bool := false
  deriving DecidableEq, Repr

/-! ## Zones -/

/-- A zone's runtime state: FPLAN's (R50-R61) and COMP's override mode (R23). -/
structure Zone where
  action : Action := .none
  status : Status := .quiet
  latch : Bool := false
  timer : Deadline := .stopped
  avail : Nat := 0
  conf : Nat := 0
  override : OverrideMode := .auto
  deriving DecidableEq, Repr

/-! ## Weather Processor -/

/-- The last valid record received (R72, R88); its readings before any record are the model's choice (notes/assumptions/7.md). -/
structure LastRecord where
  received : Bool := false
  dir : Nat := 0
  speed : Nat := 0
  rain : Bool := false
  held : Bool := false
  deriving DecidableEq, Repr

/-- The Weather Processor (R89). `rx` holds the bytes assembled: the receiver is HUNTING when it is empty and ASSEMBLING
otherwise (R68). -/
structure Weather where
  rx : List Byte := []
  gap : Timer := .stopped
  errors : Nat := 0
  last : LastRecord := {}
  live : Bool := false
  stale : Timer := .stopped
  sdir : Nat := 0
  sv : Nat := 0
  ring : Vector Nat 8 := #v[0, 0, 0, 0, 0, 0, 0, 0]
  gate : Bool := false
  storm : Tri := .unknown
  rain : Tri := .unknown
  rainCount : Nat := 0
  deriving DecidableEq, Repr

/-! ## Lines -/

/-- MOTION's state of one line (R104-R111). `holders` lists the slots holding a permit in the order of their grants;
`queue` is the permit queue, head first. -/
structure MotionLine where
  fireLimit : Bool := false
  holders : List SlotId := []
  queue : List SlotId := []
  entryCount : Nat := 0
  preempting : Nat := 0
  power : Power := .active
  standbyDwell : Timer := .stopped
  wake : Timer := .stopped
  deriving DecidableEq, Repr

/-- A transaction of a drive line (R117). A PROFILE names the entry whose attribute id and value it carries. -/
inductive Trans where
  | stopAll
  | stop (i : SlotId)
  | move (i : SlotId) (target : Nat) (fast : Bool)
  | profile (i : SlotId) (entry : Fin 8)
  | pollMoving (i : SlotId)
  | pollIdle (i : SlotId)
  | probe (i : SlotId)
  deriving DecidableEq, Repr

/-- Where the transaction in flight stands (R119, R120): the request is being sent; the reply timer runs with the time
shown; a reply is being received, with the time the reply timer had left, the bytes so far and the 2 ms byte gap; or the
transaction has ended within this event and the next one has not been taken yet (R121 step 5). -/
inductive Phase where
  | sending
  | waiting (ms : Nat)
  | receiving (left : Nat) (bytes : List Byte) (gap : Nat)
  | ended
  deriving DecidableEq, Repr

/-- The transaction in flight (R115), with the marks of R123 (withdrawn) and R133 (abandoned). -/
structure Flight where
  trans : Trans
  attempt : Nat := 1
  phase : Phase := .sending
  withdrawn : Bool := false
  abandoned : Bool := false
  deriving DecidableEq, Repr

/-- A drive line controller's state of its line (R115). `queue` lists the pending transactions oldest first.
The defaults are the hardware-reset values of R134; `reset`, which its table does not list, is DEDUCED stopped
(notes/assumptions/7.md). -/
structure DriveLine where
  state : LineState := .run
  queue : List Trans := []
  flight : Option Flight := none
  failures : Nat := 0
  reset : Timer := .stopped
  owed : Bool := false
  deriving DecidableEq, Repr

/-! ## Window Engine -/

/-- A request to COMP for one slot (R139). -/
inductive Request where
  | set (value : Nat)
  | clear
  | leave
  deriving DecidableEq, Repr

/-- Kind and parameters of an operation (R141-R147, R152). -/
inductive OpKind where
  | fill (value : Word16)
  | pattern
  | copy (row col : Nat)
  | expand (fore back : Word16) (keyed : Bool)
  | block
  | mask (code : Fin 16) (fore : Nat)
  | read (kind : Fin 4)
  deriving DecidableEq, Repr

/-- The operation in progress (R136). The scan counter is `k`; FEEDING when `feeding`, else RUNNING. -/
structure Op where
  kind : OpKind
  n : Nat
  needed : Nat := 0
  accepted : Nat := 0
  k : Nat := 0
  feeding : Bool := false
  deriving DecidableEq, Repr

/-- The window setting (R136, R137). -/
structure Window where
  xs : Nat := 0
  xe : Nat := 15
  ys : Nat := 0
  ye : Nat := 11
  mv : Bool := false
  mx : Bool := false
  my : Bool := false
  deriving DecidableEq, Repr

/-- The Window Engine (R136). The operation state is IDLE when `op` is none. -/
structure Engine where
  window : Window := {}
  tile : Vector Word16 16 := Vector.replicate 16 0xFFFF
  op : Option Op := none
  hand : Option Word16 := none
  snapshot : List Request := []
  fifo : List Word16 := []
  feed : Timer := .stopped
  written : Nat := 0
  skipped : Nat := 0
  refused : Nat := 0
  remaining : Nat := 0
  outcome : EngOutcome := .none
  due : EngOutcome := .none
  deriving DecidableEq, Repr

/-! ## Master ports -/

/-- What a port hold waits for (R163): a reply being prepared at a read or a write address byte, or room in the FIFO at the
second byte of a DATA item. -/
inductive HoldCause where
  | readAddress
  | writeAddress
  | dataByte (high low : Byte)
  deriving DecidableEq, Repr

/-- Frame state of a port (R157). -/
inductive Frame where
  | idle | write | read
  | holding (cause : HoldCause)
  | ignoring
  deriving DecidableEq, Repr

/-- State of a DATA frame (R149): an operation was FEEDING at the code, the unpaired high byte, the first refusal, and
whether this frame's items reached the end of count. -/
structure DataFrame where
  fed : Bool := false
  high : Option Byte := none
  refusal : Option StatusCode := none
  full : Bool := false
  deriving DecidableEq, Repr

/-- A reply (R161): status and payload; the length byte is the payload's length. -/
structure Reply where
  status : StatusCode := .ok
  payload : List Byte := []
  deriving DecidableEq, Repr

/-- One record of a query reply, captured whole at one instant (R17, R66, R88, R165). -/
inductive Capture where
  | vent (i : SlotId)
  | alarmList
  | zone (z : ZoneId)
  | weather
  | line (l : LineId)
  deriving DecidableEq, Repr

/-- A reply being prepared (R162): the records still to capture, the bytes captured so far, the bytes that follow the last
record, and where the free capture schedule stands (`take`-th query, `events` events since, `taken` records captured). -/
structure Prep where
  todo : List Capture
  bytes : List Byte := []
  tail : List Byte := []
  take : Nat
  events : Nat := 0
  taken : Nat := 0
  deriving DecidableEq, Repr

/-- A master port (R157-R163). The reply state is PREPARING when `prep` is some, READY otherwise. -/
structure Port where
  frame : Frame := .idle
  awaiting : Bool := false
  frameAddr : BitVec 7
  frameMask : BitVec 7 := 0x7F
  code : Option Byte := none
  params : List Byte := []
  data : DataFrame := {}
  reply : Reply := {}
  prep : Option Prep := none
  readIndex : Nat := 0
  readPending : Bool := false
  flags : Word16 := 0
  errors : Nat := 0
  hold : Timer := .stopped
  ack : Bool := false
  sent : Option Byte := none
  deriving DecidableEq, Repr

/-! ## The part -/

/-- The whole part, and the queue of commands that wait for it. -/
structure State where
  resetPin : Bool
  mode : Mode
  tables : Tables
  slots : Vector Slot 192
  zones : Vector Zone 8
  alarms : List ZoneId
  wx : Weather
  motion : Vector MotionLine 4
  dlc : Vector DriveLine 4
  eng : Engine
  ports : Vector Port 3
  captures : Nat
  pending : List Instr
  deriving DecidableEq, Repr

/-- Reasons a step could stop with a fault. There is none: the spec gives every event of every state an effect, so no
command raises a fault (safe: nothing is cut short). -/
inductive Fault where
  deriving DecidableEq, Repr

/-- Reasons a step could be refused. -/
inductive Refusal where
  /-- A command without a meaning, by its mnemonic. Raised by no meaning and by no arm of `exec`: every row of the table is
  modelled. It stands here because the host's interface names it (safe). -/
  | notModelled (mnemonic : String)
  deriving DecidableEq, Repr

/-- The configuration tables after a hardware reset with the given strap value (R169, R173). -/
def Tables.reset (strap : BitVec 2) : Tables where
  vents := Vector.replicate 192 {}
  profiles := Vector.replicate 192 (Vector.replicate 8 {})
  zones := Vector.replicate 8 {}
  plan := Vector.replicate 8 (Vector.replicate 8 .none)
  lines := Vector.replicate 4 {}
  weather := {}
  ports := Vector.replicate 3 { addr := 0x3A + strap.setWidth 7 }
  policies := Vector.replicate 3 {}

/-- The part right after a hardware reset with the given strap value (R173): every block in the hardware-reset state its
chapter gives. -/
def State.hardwareReset (strap : BitVec 2) : State where
  resetPin := false
  mode := .unconfigured
  tables := Tables.reset strap
  slots := Vector.replicate 192 {}
  zones := Vector.replicate 8 {}
  alarms := []
  wx := {}
  motion := Vector.replicate 4 {}
  dlc := Vector.replicate 4 {}
  eng := {}
  ports := Vector.replicate 3 { frameAddr := 0x3A + strap.setWidth 7 }
  captures := 0
  pending := []

/-- The machine right after reset. The strap value is the model's choice 0 (notes/assumptions/6.md). -/
def State.reset : State := State.hardwareReset 0

end Sys2Proof.Machine
end

