-- ==== Sys2Proof/Machine/Operands.lean ====
section
/-!
DEFINITION. Operand forms: byte order of every link (high byte first, R175), the codes of R175 in both directions, and the
one-byte coded parameters of R176 and R177.
-/

namespace Sys2Proof.Machine

/-! ## Byte order (R175) -/

/-- One byte of a quantity. -/
def byte8 (n : Nat) : List Byte := [BitVec.ofNat 8 n]

/-- A 16-bit value as two bytes, high byte first. -/
def bytes16 (n : Nat) : List Byte := [BitVec.ofNat 8 (n / 256), BitVec.ofNat 8 n]

/-- A 24-bit value as three bytes, high byte first. -/
def bytes24 (n : Nat) : List Byte := [BitVec.ofNat 8 (n / 65536), BitVec.ofNat 8 (n / 256), BitVec.ofNat 8 n]

/-- Two bytes read as a 16-bit value, high byte first. -/
def word16 (hi lo : Byte) : Word16 := BitVec.ofNat 16 (hi.toNat * 256 + lo.toNat)

/-- A position, target or BMS entry as a 16-bit value; unknown, undefined and absent are 0xFFFE. -/
def encodeOpt (v : Option Nat) : Nat := v.getD 0xFFFE

/-- A yes/no or set/clear bit. -/
def bit (b : Bool) : Nat := if b then 1 else 0

/-- The bytes of 16-bit values in pairs; none when a byte is left over. -/
def wordsOf : List Byte → Option (List Word16)
  | [] => some []
  | [_] => none
  | hi :: lo :: rest => (wordsOf rest).map (word16 hi lo :: ·)

/-! ## Codes (R175) -/

/-- Codes of the motion state. -/
def Motion.code : Motion → Nat
  | .detached => 0 | .idle => 1 | .queued => 2 | .starting => 3 | .moving => 4 | .stopping _ => 5 | .dwell => 6 | .fault => 7

/-- Codes of the link state. -/
def Link.code : Link → Nat
  | .unmapped => 0 | .offline => 1 | .profiling => 2 | .online => 3

/-- Codes of the fault code. -/
def FaultCode.code : FaultCode → Nat
  | .none => 0 | .travelTimeout => 1 | .obstructed => 2 | .overcurrent => 3 | .overtemp => 4 | .stalled => 5
  | .profileRefused => 6 | .moveRefused => 7

/-- Codes of the source. -/
def Source.code : Source → Nat
  | .rest => 0 | .bms => 1 | .fire => 2 | .ovr => 3

/-- Codes of the wind class. -/
def WindClass.code : WindClass → Nat
  | .calm => 0 | .windward => 1 | .cross => 2 | .leeward => 3

/-- Codes of the zone action. -/
def Action.code : Action → Nat
  | .none => 0 | .exhaust => 1 | .inlet => 2 | .close => 3

/-- Codes of the zone status. -/
def Status.code : Status → Nat
  | .quiet => 0 | .opening => 1 | .confirmed => 2 | .shortfall => 3

/-- Codes of the deadline timer. -/
def Deadline.code : Deadline → Nat
  | .stopped => 0 | .running _ => 1 | .expired => 2

/-- Codes of the override mode. -/
def OverrideMode.code : OverrideMode → Nat
  | .auto => 0 | .open => 1 | .close => 2 | .hold => 3

/-- Codes of storm and rain. -/
def Tri.code : Tri → Nat
  | .inactive => 0 | .active => 1 | .unknown => 2

/-- Codes of the power state. -/
def Power.code : Power → Nat
  | .active => 0 | .standby => 1 | .waking => 2

/-- Codes of the line state. -/
def LineState.code : LineState → Nat
  | .run => 0 | .lreset => 1

/-- Codes of the mode. -/
def Mode.code : Mode → Nat
  | .unconfigured => 0 | .run => 1

/-- Codes of the outcome. -/
def EngOutcome.code : EngOutcome → Nat
  | .none => 0 | .complete => 1 | .truncatedTimeout => 2 | .truncatedAbort => 3 | .truncatedRestart => 4

/-- Operation kind: its command code, 0x33–0x39. -/
def OpKind.code : OpKind → Nat
  | .fill _ => 0x33 | .pattern => 0x34 | .copy _ _ => 0x35 | .expand _ _ _ => 0x36 | .block => 0x37 | .mask _ _ => 0x38
  | .read _ => 0x39

/-- Transaction kind; the same numbers give the order in which kinds are taken from the queue (R118). -/
def Trans.kind : Trans → Nat
  | .stopAll => 0 | .stop _ => 1 | .move _ _ _ => 2 | .profile _ _ => 3 | .pollMoving _ => 4 | .pollIdle _ => 5
  | .probe _ => 6

/-- The slot a transaction is for; STOP_ALL is for the whole line. -/
def Trans.slot? : Trans → Option SlotId
  | .stopAll => none
  | .stop i | .move i _ _ | .profile i _ | .pollMoving i | .pollIdle i | .probe i => some i

/-- Status codes (R160). -/
def StatusCode.code : StatusCode → Nat
  | .ok => 0 | .part => 1 | .denied => 2 | .badCommand => 3 | .badParam => 4 | .badConfig => 5 | .locked => 6 | .notReady => 7
  | .busy => 8 | .pending => 9

/-! ## Coded bytes of parameters and records (R176, R177) -/

/-- A zone number; above 7 is out of range. -/
def zoneOf (b : Byte) : Option ZoneId := if h : b.toNat < 8 then some ⟨b.toNat, h⟩ else none

/-- A line code A 0 … D 3. -/
def lineOf (b : Byte) : Option LineId :=
  match b.toNat with
  | 0 => some .a | 1 => some .b | 2 => some .c | 3 => some .d | _ => none

/-- The byte of a line. -/
def LineId.code : LineId → Nat
  | .a => 0 | .b => 1 | .c => 2 | .d => 3

/-- An override mode. -/
def overrideOf (b : Byte) : Option OverrideMode :=
  match b.toNat with
  | 0 => some .auto | 1 => some .open | 2 => some .close | 3 => some .hold | _ => none

/-- A plan table entry. -/
def actionOf (b : Byte) : Option Action :=
  match b.toNat with
  | 0 => some .none | 1 => some .exhaust | 2 => some .inlet | 3 => some .close | _ => none

/-- A vent class. -/
def classOf (b : Byte) : Option VentClass :=
  match b.toNat with
  | 0 => some .sv | 1 => some .cw | 2 => some .iw | _ => none

/-- The byte of a vent class. -/
def VentClass.code : VentClass → Nat
  | .sv => 0 | .cw => 1 | .iw => 2

/-- A yes/no byte takes 0 or 1. -/
def yesNoOf (b : Byte) : Option Bool :=
  match b.toNat with
  | 0 => some false | 1 => some true | _ => none

/-- A facing: 0–3599, or 0xFFFF for FLAT. -/
def facingOf (w : Word16) : Option Facing :=
  if w.toNat < 3600 then some (.angle w.toNat) else if w.toNat = 0xFFFF then some .flat else none

/-- The 16-bit value of a facing. -/
def Facing.code : Facing → Nat
  | .flat => 0xFFFF
  | .angle t => t

/-- A quantity in an inclusive range. -/
def inRange (n lo hi : Nat) : Option Nat := if lo ≤ n ∧ n ≤ hi then some n else none

end Sys2Proof.Machine
end

