-- ==== Sys2Proof/Machine/Flags.lean ====
section
/-!
DEFINITION. The flags: the eight status flags of a drive-line reply (R117, R179), the ten notice kinds and their bits
(R166, R175), and the attention line they drive (R167).
-/

namespace Sys2Proof.Machine

/-! ## Status flags of a reply (R179) -/

/-- The moving flag. -/
def Slot.moving (r : Slot) : Bool := r.flags.getLsbD 0
/-- The at_open flag. -/
def Slot.atOpen (r : Slot) : Bool := r.flags.getLsbD 1
/-- The at_closed flag. -/
def Slot.atClosed (r : Slot) : Bool := r.flags.getLsbD 2
/-- The profile_lost flag. -/
def Slot.profileLost (r : Slot) : Bool := r.flags.getLsbD 6
/-- The refused flag. -/
def Slot.replyRefused (r : Slot) : Bool := r.flags.getLsbD 7

/-- The fault code the flags call for, the first of obstructed, overcurrent, overtemp that is set (R93). -/
def Slot.faultFlag (r : Slot) : Option FaultCode :=
  if r.flags.getLsbD 3 then some .obstructed
  else if r.flags.getLsbD 4 then some .overcurrent
  else if r.flags.getLsbD 5 then some .overtemp
  else none

/-- The end flag that agrees with the target is set: at_open with target 1000, or at_closed with target 0 (R90). -/
def Slot.endFlagAgrees (r : Slot) (target : Nat) : Bool :=
  (r.atOpen && target == 1000) || (r.atClosed && target == 0)

/-! ## Notices (R166) -/

/-- The ten notice kinds. -/
inductive Notice where
  | zone | alarm | ventFault | ventLink | weather | line | override | restart | opDone | portErr
  deriving DecidableEq, Repr

/-- Bit of a notice kind in the flags and enables (R175). -/
def Notice.bitIndex : Notice → Nat
  | .zone => 0 | .alarm => 1 | .ventFault => 2 | .ventLink => 3 | .weather => 4 | .line => 5 | .override => 6 | .restart => 7
  | .opDone => 8 | .portErr => 9

/-- The 16-bit value with this kind's bit alone. -/
def Notice.mask (k : Notice) : Word16 := 1#16 <<< k.bitIndex

/-- A notice flag of a port is set. -/
def Port.notice (pt : Port) (k : Notice) : Bool := pt.flags.getLsbD k.bitIndex

/-- A flag already set stays set (R166). -/
def Port.raise (k : Notice) (pt : Port) : Port := { pt with flags := pt.flags ||| k.mask }

/-- A 16-bit count that stays at 65535 (R73, R159). -/
def saturate (n : Nat) : Nat := min (n + 1) 65535

/-- A port error: the count rises and PORT_ERR is raised on this port (R159, R163). -/
def Port.error (pt : Port) : Port := { pt with errors := saturate pt.errors }.raise .portErr

end Sys2Proof.Machine
end

