-- ==== Sys2Proof/Machine/Ops.lean ====
section
/-!
DEFINITION. Named operations over the state: reading and updating a slot, a zone, a line, a port and the engine; walking the
slots in slot order; raising notices; the pins that are functions of the state.
-/

namespace Sys2Proof.Machine

/-- Place of a line in the per-line tables. -/
def LineId.idx : LineId → Fin 4
  | .a => 0 | .b => 1 | .c => 2 | .d => 3

/-- Place of a port in the per-port tables. -/
def PortId.idx : PortId → Fin 3
  | .f => 0 | .b => 1 | .o => 2

/-- The lines in order. -/
def allLines : List LineId := [.a, .b, .c, .d]

/-- The ports in order. -/
def allPorts : List PortId := [.f, .b, .o]

/-- The slots in slot order (R1). -/
def allSlots : List SlotId := List.finRange 192

/-- The zones in ascending order. -/
def allZones : List ZoneId := List.finRange 8

namespace State

/-! ## Reading -/

/-- Configuration part of a slot. -/
def vent (s : State) (i : SlotId) : VentCfg := s.tables.vents[i]

/-- Runtime part of a slot. -/
def slot (s : State) (i : SlotId) : Slot := s.slots[i]

/-- Configuration of a zone. -/
def zoneCfg (s : State) (z : ZoneId) : ZoneCfg := s.tables.zones[z]

/-- Runtime state of a zone. -/
def zone (s : State) (z : ZoneId) : Zone := s.zones[z]

/-- Settings of a line. -/
def lineCfg (s : State) (l : LineId) : LineCfg := s.tables.lines[LineId.idx l]

/-- MOTION's state of a line. -/
def mline (s : State) (l : LineId) : MotionLine := s.motion[LineId.idx l]

/-- The controller's state of a line. -/
def dline (s : State) (l : LineId) : DriveLine := s.dlc[LineId.idx l]

/-- Settings of a port. -/
def portCfg (s : State) (p : PortId) : PortCfg := s.tables.ports[PortId.idx p]

/-- State of a port. -/
def port (s : State) (p : PortId) : Port := s.ports[PortId.idx p]

/-- The plan entry plan[a][z] (R48). -/
def planAt (s : State) (a z : ZoneId) : Action := s.tables.plan[a][z]

/-! ## Updating -/

/-- Changes one slot's runtime part. -/
def modSlot (s : State) (i : SlotId) (f : Slot → Slot) : State := { s with slots := s.slots.set i (f s.slots[i]) }

/-- Changes one zone's runtime state. -/
def modZone (s : State) (z : ZoneId) (f : Zone → Zone) : State := { s with zones := s.zones.set z (f s.zones[z]) }

/-- Changes MOTION's state of a line. -/
def modMline (s : State) (l : LineId) (f : MotionLine → MotionLine) : State :=
  { s with motion := s.motion.set (LineId.idx l) (f s.motion[LineId.idx l]) }

/-- Changes a controller's state of its line. -/
def modDline (s : State) (l : LineId) (f : DriveLine → DriveLine) : State :=
  { s with dlc := s.dlc.set (LineId.idx l) (f s.dlc[LineId.idx l]) }

/-- Changes a port. -/
def modPort (s : State) (p : PortId) (f : Port → Port) : State :=
  { s with ports := s.ports.set (PortId.idx p) (f s.ports[PortId.idx p]) }

/-- Changes the Window Engine. -/
def modEng (s : State) (f : Engine → Engine) : State := { s with eng := f s.eng }

/-- Changes the Weather Processor. -/
def modWx (s : State) (f : Weather → Weather) : State := { s with wx := f s.wx }

/-! ## Sets of slots, in slot order (R1) -/

/-- The mapped slots. -/
def mappedSlots (s : State) : List SlotId := allSlots.filter fun i => (s.vent i).mapped

/-- The members of a zone (R5). -/
def zoneMembers (s : State) (z : ZoneId) : List SlotId :=
  allSlots.filter fun i => (s.vent i).mapped && decide ((s.vent i).zone = z)

/-- The members of a line (R6). -/
def lineMembers (s : State) (l : LineId) : List SlotId :=
  allSlots.filter fun i => (s.vent i).mapped && decide ((s.vent i).line = l)

/-- The SV members of a zone, which its area sums count (R8). -/
def smokeVents (s : State) (z : ZoneId) : List SlotId :=
  (s.zoneMembers z).filter fun i => decide ((s.vent i).cls = .sv)

/-- Resolves a selector (R15) and the broadcast selector (R16). -/
def select (s : State) (sel mask : Word16) : List SlotId :=
  allSlots.filter fun i =>
    (s.vent i).mapped &&
      (if mask = 0 then !(s.vent i).bcastRefuse else decide ((s.vent i).tag &&& mask = sel &&& mask))

/-- Takes the slots of a list one after another, each seeing what the ones before it did. -/
def eachSlot (s : State) (l : List SlotId) (f : SlotId → State → State) : State := l.foldl (fun t i => f i t) s

/-- Takes the zones of a list one after another. -/
def eachZone (s : State) (l : List ZoneId) (f : ZoneId → State → State) : State := l.foldl (fun t z => f z t) s

/-- Takes the four lines one after another, A first. -/
def eachLine (s : State) (f : LineId → State → State) : State := allLines.foldl (fun t l => f l t) s

/-! ## Notices (R166) -/

/-- Raises a notice on one port. -/
def raiseOn (s : State) (p : PortId) (k : Notice) : State := s.modPort p (Port.raise k)

/-- Raises a notice on all three ports. -/
def raiseAll (s : State) (k : Notice) : State := ((s.raiseOn .f k).raiseOn .b k).raiseOn .o k

/-- Raises a notice on all three ports if a condition holds. -/
def raiseIf (s : State) (b : Bool) (k : Notice) : State := if b then s.raiseAll k else s

/-! ## Pins (chapter 9.5) -/

/-- The attention line of a port is asserted: some flag is set whose enable is set (R167); every line is released while the
reset pin is asserted (R173). -/
def attention (s : State) (p : PortId) : Bool :=
  !s.resetPin && decide ((s.port p).flags &&& (s.portCfg p).enables ≠ 0)

/-- The part holds the port's clock low (R163). R173 does not say whether a hold in progress goes on while the reset pin is
asserted; the model releases the clock (DESIGN CHOICE, notes/assumptions/30.md). -/
def clockHeld (s : State) (p : PortId) : Bool :=
  !s.resetPin && match (s.port p).frame with | .holding _ => true | _ => false

/-- The direction pin enables the line driver: while the controller transmits, and while the line is held at its break level
in LRESET (chapter 9.5, R119, R131); no line is driven while the reset pin is asserted (R173). -/
def driverEnabled (s : State) (l : LineId) : Bool :=
  !s.resetPin && (decide ((s.dline l).state = .lreset) ||
    match (s.dline l).flight with | some f => decide (f.phase = .sending) | none => false)

/-! ## Timers -/

end State

/-- A timer is running. -/
def Timer.isRunning : Timer → Bool
  | .stopped => false
  | .running _ => true

/-- Milliseconds that remain, 0 when STOPPED. -/
def Timer.left : Timer → Nat
  | .stopped => 0
  | .running ms => ms

/-- Milliseconds that remain, 0 when STOPPED or EXPIRED (R60). -/
def Deadline.left : Deadline → Nat
  | .running ms => ms
  | .stopped | .expired => 0

/-- A time remaining in tenths of a second (R60, R74). The rules state no rounding; the model rounds up, so that a running
timer never reads 0 (DESIGN CHOICE, notes/assumptions/8.md). -/
def tenths (ms : Nat) : Nat := (ms + 99) / 100

/-- A line's current limit: K_fire or K_norm (R105). -/
def State.limit (s : State) (l : LineId) : Nat :=
  if (s.mline l).fireLimit then (s.lineCfg l).kFire else (s.lineCfg l).kNorm

/-- A line's reply timeout in milliseconds (R116). -/
def State.replyTimeout (s : State) (l : LineId) : Nat :=
  if (s.lineCfg l).timeoutCode = 15 then 100 else ((s.lineCfg l).timeoutCode + 1) * 2

/-- A line's line-reset time in milliseconds (R116). -/
def State.lineResetTime (s : State) (l : LineId) : Nat :=
  if (s.lineCfg l).resetCode = 255 then 5000 else ((s.lineCfg l).resetCode + 1) * 10

end Sys2Proof.Machine
end

