-- ==== Sys2Proof/Machine/Lines.lean ====
section
/-!
DEFINITION. The transaction queue of a drive line (R118, R119, R123): placing, taking and sending, withdrawing; and the
frames sent on the wire (R117, R179).
-/

namespace Sys2Proof.Machine

/-! ## The queue (R118) -/

/-- Two transactions of the same kind for the same slot. -/
def Trans.sameRequest (t u : Trans) : Bool := t.kind == u.kind && t.slot? == u.slot?

/-- A placement onto the queue. One of the same kind already pending for the slot: a MOVE takes the new target and speed
class and keeps its place; any other kind is dropped (R118). -/
def enqueue (t : Trans) (q : List Trans) : List Trans :=
  if q.any t.sameRequest then
    match t with
    | .move _ _ _ => q.map fun u => if t.sameRequest u then t else u
    | _ => q
  else q ++ [t]

/-- The transaction to take: first kind in the order of R118, oldest within the kind. -/
def nextTrans (q : List Trans) : Option Trans :=
  (List.range 7).findSome? fun k => q.find? fun t => t.kind == k

namespace State

/-- The transaction in flight of a line. One that has ended within this event is no longer in flight. -/
def inFlight (s : State) (l : LineId) : Option Flight := (s.dline l).flight.filter fun f => decide (f.phase ≠ .ended)

/-- Takes and sends the next transaction when the line is RUN, nothing is in flight and the queue is not empty (R119). -/
def sendNext (l : LineId) (s : State) : State :=
  if (s.dline l).state = .run ∧ (s.dline l).flight = none then
    match nextTrans (s.dline l).queue with
    | none => s
    | some t => s.modDline l fun d => { d with queue := d.queue.erase t, flight := some { trans := t } }
  else s

/-- Places a transaction. A placement for a line in LRESET is discarded (R118); while UNCONFIGURED nothing is placed
(R115). A placement onto an idle line is sent at once (R119; notes/assumptions/9.md). -/
def place (l : LineId) (t : Trans) (s : State) : State :=
  if s.mode = .run ∧ (s.dline l).state = .run then
    (s.modDline l fun d => { d with queue := enqueue t d.queue }).sendNext l
  else s

/-- Ends the transaction in flight at the end of its event and takes the next one (R121 step 5). -/
def takeNext (l : LineId) (s : State) : State := (s.modDline l fun d => { d with flight := none }).sendNext l

/-- Marks the transaction in flight as ended; the next one is taken last in the event (R121). -/
def endFlight (l : LineId) (s : State) : State :=
  s.modDline l fun d => { d with flight := d.flight.map fun f => { f with phase := .ended } }

/-- Withdraws the transactions a condition names: pending ones are removed, one in flight is sent no further attempt
(R123). -/
def withdraw (l : LineId) (which : Trans → Bool) (s : State) : State :=
  s.modDline l fun d =>
    { d with
      queue := d.queue.filter fun t => !which t
      flight := d.flight.map fun f => if which f.trans then { f with withdrawn := true } else f }

/-- A transaction of a kind is pending or in flight for a slot. -/
def placedOrFlying (s : State) (l : LineId) (which : Trans → Bool) : Bool :=
  (s.dline l).queue.any which || (match s.inFlight l with | some f => which f.trans | none => false)

end State

/-- A MOVE for the slot. -/
def Trans.isMoveOf (i : SlotId) : Trans → Bool
  | .move j _ _ => j == i
  | _ => false

/-- A STOP for the slot. -/
def Trans.isStopOf (i : SlotId) : Trans → Bool
  | .stop j => j == i
  | _ => false

/-- A transaction for the slot other than a STOP. -/
def Trans.isOtherOf (i : SlotId) (t : Trans) : Bool := t.slot? == some i && !t.isStopOf i

/-- A MOVE is placed for the slot and not yet sent (R96); notes/assumptions/18.md. -/
def State.moveUnsent (s : State) (i : SlotId) : Bool := (s.dline (s.vent i).line).queue.any (Trans.isMoveOf i)

/-! ## Frames on the wire (R117, R179) -/

/-- The check byte that makes the 8-bit sum of the bytes 0. -/
def checkByte (bytes : List Byte) : Byte := -(bytes.foldl (· + ·) 0)

/-- A frame with its check byte. -/
def framed (bytes : List Byte) : List Byte := bytes ++ [checkByte bytes]

/-- The 8-bit sum of all bytes is 0. -/
def sumsToZero (bytes : List Byte) : Bool := bytes.foldl (· + ·) 0 == 0

/-- Bus address of a slot as a byte. -/
def State.busByte (s : State) (i : SlotId) : Byte := BitVec.ofNat 8 (s.vent i).bus

/-- The request frame of a transaction (R179). -/
def State.requestBytes (s : State) : Trans → List Byte
  | .stopAll => framed [0x00, 0x05]
  | .stop i => framed [s.busByte i, 0x03]
  | .move i target fast => framed ([s.busByte i, 0x02] ++ bytes16 target ++ byte8 (bit fast))
  | .profile i e =>
    framed ([s.busByte i, 0x04, (s.tables.profiles[i][e]).attrId] ++ bytes16 (s.tables.profiles[i][e]).value.toNat)
  | .pollMoving i | .pollIdle i | .probe i => framed [s.busByte i, 0x01]

end Sys2Proof.Machine
end

