-- ==== Sys2Proof/Machine/Motion.lean ====
section
/-!
DEFINITION. The Motion Controller's shared operations (chapter 5): evaluation, permit classes, the permit queue, grants,
preemption, line waking, and the target change event. Fault entry, link events and the judging of replies are in Faults.lean,
because they report to FPLAN.
-/

namespace Sys2Proof.Machine

/-! ## Evaluation and permit classes -/

/-- Distance between two positions. -/
def gap (a b : Nat) : Nat := if a ≤ b then b - a else a - b

/-- Evaluation (R90): the direction of the move the slot needs, or none when it is in place. -/
def needsMove (v : VentCfg) (r : Slot) : Option Direction :=
  match r.target, r.position with
  | some t, some p =>
    if v.mapped ∧ r.link = .online ∧ r.motion ≠ .fault ∧ v.deadband < gap t p ∧ r.endFlagAgrees t = false then
      some (if p < t then .opening else .closing)
    else none
  | _, _ => none

/-- Permit class of a needed move (R91). -/
def permitClass (src : Source) (d : Direction) : Fin 3 :=
  match src, d with
  | .ovr, _ => 0
  | .fire, _ => 0
  | _, .closing => 1
  | _, .opening => 2

namespace State

/-- Evaluation of a slot as it stands (R90). -/
def evaluate (s : State) (i : SlotId) : Option Direction := needsMove (s.vent i) (s.slot i)

/-- Records a needed move's direction and class. -/
def setMove (i : SlotId) (d : Direction) (s : State) : State :=
  s.modSlot i fun r => { r with dir := some d, cls := some (permitClass r.source d) }

/-- Recomputes the class alone, for a move in this direction (R91). -/
def setClass (i : SlotId) (d : Direction) (s : State) : State :=
  s.modSlot i fun r => { r with cls := some (permitClass r.source d) }

/-! ## The permit queue (R106) -/

/-- Queue order: permit class, then entry time. -/
def before (s : State) (i j : SlotId) : Bool :=
  let ci := ((s.slot i).cls.getD 0).val
  let cj := ((s.slot j).cls.getD 0).val
  decide (ci < cj) || (ci == cj && decide ((s.slot i).entryTime.getD 0 < (s.slot j).entryTime.getD 0))

/-- Puts a slot into a queue in its place. -/
def insertInto (s : State) (i : SlotId) : List SlotId → List SlotId
  | [] => [i]
  | j :: q => if s.before i j then i :: j :: q else j :: s.insertInto i q

/-- Puts the slot into its line's queue by its class and entry time. -/
def joinQueue (i : SlotId) (s : State) : State :=
  s.modMline (s.vent i).line fun m => { m with queue := s.insertInto i m.queue }

/-- Takes the slot out of its line's queue; it holds no entry time any more. -/
def leaveQueue (i : SlotId) (s : State) : State :=
  (s.modMline (s.vent i).line fun m => { m with queue := m.queue.erase i }).modSlot i fun r => { r with entryTime := none }

/-- The entry count at its largest value: the waiting entries take the times 1, 2 … in queue order and the count goes on from
the last of these (R106; notes/assumptions/20.md). -/
def renumber (l : LineId) (s : State) : State :=
  if 4294967295 ≤ (s.mline l).entryCount then
    ((s.mline l).queue.zipIdx.foldl (fun t e => t.modSlot e.1 fun r => { r with entryTime := some (e.2 + 1) }) s).modMline l
      fun m => { m with entryCount := m.queue.length }
  else s

/-- Queue entry (R94, R106): the slot becomes QUEUED with a new entry time and joins its line's queue. The tests that
follow are made by `settle`. -/
def enterQueue (i : SlotId) (d : Direction) (s : State) : State :=
  let l := (s.vent i).line
  let t := s.modMline l fun m => { m with entryCount := m.entryCount + 1 }
  ((((t.setMove i d).modSlot i fun r => { r with motion := .queued, entryTime := some (t.mline l).entryCount }).joinQueue i).renumber l)

/-! ## Grants (R107) -/

/-- Places the slot's MOVE with its target and the speed class of its permit class (R91, R96). -/
def placeMove (i : SlotId) (s : State) : State :=
  match (s.slot i).target with
  | some t => s.place (s.vent i).line (.move i t (decide ((s.slot i).cls = some 0)))
  | none => s

/-- The grant: the slot leaves the queue, holds a permit and becomes STARTING; its MOVE is placed (R96, R107). -/
def grant (l : LineId) (i : SlotId) (s : State) : State :=
  (((s.leaveQueue i).modMline l fun m => { m with holders := m.holders ++ [i] }).modSlot i fun r =>
    { r with motion := .starting, permit := true, stoppedShort := 0, deferred := false }).placeMove i

/-- A grant may be made on the line (R107). -/
def mayGrant (s : State) (l : LineId) : Bool :=
  decide ((s.mline l).holders.length < s.limit l) && decide ((s.mline l).power = .active) && decide ((s.dline l).state = .run)

/-- Grants to the head of the queue again and again until a condition fails (R107). `fuel` bounds the number of grants. -/
def grants (l : LineId) : Nat → State → State
  | 0, s => s
  | n + 1, s =>
    match (s.mline l).queue with
    | [] => s
    | i :: _ => if s.mayGrant l then grants l n (s.grant l i) else s

/-- Grants as long as the queue allows: at most one for each entry. -/
def grantAll (l : LineId) (s : State) : State := grants l (s.mline l).queue.length s

/-! ## Release -/

/-- Gives the permit back (5.2): permit held becomes no, the line's count falls, any MOVE is withdrawn (R123). The grants
this allows are made by `settle`. -/
def giveBack (i : SlotId) (s : State) : State :=
  if (s.slot i).permit then
    (((s.modSlot i fun r => { r with permit := false }).modMline (s.vent i).line fun m =>
      { m with holders := m.holders.erase i }).withdraw (s.vent i).line (Trans.isMoveOf i))
  else s

/-- Stops the travel, poll and dwell timers. -/
def stopTimers (i : SlotId) (s : State) : State :=
  s.modSlot i fun r => { r with travel := .stopped, poll := .stopped, dwell := .stopped }

/-- A slot that leaves STOPPING with continuation preemption ends that preemption (R108). -/
def endPreemption (i : SlotId) (s : State) : State :=
  if (s.slot i).motion = .stopping .preemption then
    s.modMline (s.vent i).line fun m => { m with preempting := m.preempting - 1 }
  else s

/-- Becomes IDLE; an IDLE slot holds no class and has no move in progress (R91; `dir` and `deferred` by
notes/assumptions/7.md). -/
def becomeIdle (i : SlotId) (s : State) : State :=
  s.modSlot i fun r => { r with motion := .idle, cls := none, dir := none, deferred := false }

/-! ## Preemption (R108) -/

/-- Class-0 entries in the line's queue. -/
def urgent (s : State) (l : LineId) : Nat := ((s.mline l).queue.filter fun i => (s.slot i).cls == some 0).length

/-- The holder to preempt: of class 2, in STARTING or MOVING, granted most recently. -/
def preemptable (s : State) (l : LineId) : Option SlotId :=
  (s.mline l).holders.reverse.find? fun i =>
    (s.slot i).cls == some 2 && ((s.slot i).motion == .starting || (s.slot i).motion == .moving)

/-- Places a STOP with a continuation: any MOVE is withdrawn and the slot's timers stop (R98, R108). -/
def startStop (i : SlotId) (k : Continuation) (s : State) : State :=
  (((s.stopTimers i).modSlot i fun r => { r with motion := .stopping k }).withdraw (s.vent i).line (Trans.isMoveOf i)).place
    (s.vent i).line (.stop i)

/-- Preempts one holder: at once if its MOVE is not yet sent, else through a STOP (R108). -/
def preempt (l : LineId) (i : SlotId) (s : State) : State :=
  if (s.slot i).motion = .starting ∧ s.moveUnsent i then
    let t := (s.giveBack i).becomeIdle i
    let u := match t.evaluate i with
      | some d => t.enterQueue i d
      | none => t
    u.grantAll l
  else
    (s.startStop i .preemption).modMline l fun m => { m with preempting := m.preempting + 1 }

/-- Starts preemptions while their conditions hold (R108). Each takes one holder of class 2 out of STARTING and MOVING, so
`fuel` need be no more than the number of holders. -/
def preempts (l : LineId) : Nat → State → State
  | 0, s => s
  | n + 1, s =>
    if s.limit l ≤ (s.mline l).holders.length ∧ (s.mline l).preempting < s.urgent l then
      match s.preemptable l with
      | some i => preempts l n (s.preempt l i)
      | none => s
    else s

/-! ## Line waking (R111) -/

/-- A STANDBY line becomes WAKING: its standby dwell stops and its wake timer starts; a wake time of 0 makes it ACTIVE at
once. LINE is raised once (R111, R109). -/
def startWaking (l : LineId) (s : State) : State :=
  (s.modMline l fun m =>
    { m with
      standbyDwell := .stopped
      power := if (s.lineCfg l).wakeTime = 0 then .active else .waking
      wake := if (s.lineCfg l).wakeTime = 0 then .stopped else .running ((s.lineCfg l).wakeTime * 100) }).raiseAll .line

/-- The line is in STANDBY and its queue holds an entry of class 0 or 1. -/
def mustWake (s : State) (l : LineId) : Bool :=
  decide ((s.mline l).power = .standby) && (s.mline l).queue.any fun i => (s.slot i).cls == some 0 || (s.slot i).cls == some 1

/-- What follows every change of a line's queue, permits, limit, power or state: the line is woken, grants are tested
again and again, and then preemptions (R107, R108, R111). -/
def settle (l : LineId) (s : State) : State :=
  let t := if s.mustWake l then s.startWaking l else s
  let u := t.grantAll l
  preempts l (u.mline l).holders.length u

/-! ## The motion states (R94–R101) -/

/-- Evaluation in IDLE: QUEUED if the slot needs a move (R94). -/
def evaluateIdle (i : SlotId) (s : State) : State :=
  match s.evaluate i with
  | some d => (s.enterQueue i d).settle (s.vent i).line
  | none => s

/-- Evaluation in QUEUED (R95): IDLE if no move is needed; otherwise direction and class are recomputed, and a change of class
moves the entry, which keeps its entry time. -/
def evaluateQueued (i : SlotId) (s : State) : State :=
  match s.evaluate i with
  | some d =>
    if (s.slot i).cls = some (permitClass (s.slot i).source d) then s.setMove i d
    else
      (((s.modMline (s.vent i).line fun m => { m with queue := m.queue.erase i }).setMove i d).joinQueue i).settle (s.vent i).line
  | none => ((s.leaveQueue i).becomeIdle i).settle (s.vent i).line

/-- Releases the permit and becomes IDLE, with the timers stopped (R96, R97, R100, R101); freed permits are granted. -/
def releaseToIdle (i : SlotId) (s : State) : State :=
  ((((s.endPreemption i).stopTimers i).giveBack i).becomeIdle i).settle (s.vent i).line

/-- The class of a move under way, recomputed at a target change (R91): from the new source and the direction of the move now
needed, or, when none is needed, the direction recorded for the move (DEDUCED, notes/assumptions/17.md). -/
def reclass (i : SlotId) (s : State) : State :=
  match (s.evaluate i).or (s.slot i).dir with
  | some d => s.setClass i d
  | none => s

/-- A target change in MOVING (R91, R98). -/
def retarget (i : SlotId) (s : State) : State :=
  let t := s.reclass i
  match s.evaluate i with
  | none => t.startStop i .release
  | some d => if (s.slot i).dir = some d then (t.placeMove i).settle (s.vent i).line else t.startStop i .reversal

/-- A target change in STARTING (R96). Before the MOVE is sent it is updated in place, or the permit is given back; after
that the change is deferred to the MOVE reply, and the class alone is recomputed (R91; notes/assumptions/17.md). -/
def retargetStarting (i : SlotId) (s : State) : State :=
  if s.moveUnsent i then
    match s.evaluate i with
    | some d => ((s.setMove i d).placeMove i).settle (s.vent i).line
    | none => s.releaseToIdle i
  else ((s.reclass i).modSlot i fun r => { r with deferred := true }).settle (s.vent i).line

/-- The target change event handed over by COMP (R22), by motion state (R94–R102). -/
def targetChange (i : SlotId) (s : State) : State :=
  match (s.slot i).motion with
  | .idle => s.evaluateIdle i
  | .queued => s.evaluateQueued i
  | .starting => s.retargetStarting i
  | .moving => s.retarget i
  | .detached | .stopping _ | .dwell | .fault => s

/-- The permit limit FPLAN announces (R64, R105): a rise tests grants at once; a fall takes nothing back and starts nothing. -/
def announceLimit (fire : Bool) (s : State) : State :=
  let t := s.eachLine fun l u => u.modMline l fun m => { m with fireLimit := fire }
  if fire then t.eachLine settle else t

end State

end Sys2Proof.Machine
end

