-- ==== Sys2Proof/Machine/Comp.lean ====
section
/-!
DEFINITION. The Composition Unit's shared operations (chapter 2): the fire value, composition, recomposition and hand-over,
hold captures, port policy and the per-slot BMS write.
-/

namespace Sys2Proof.Machine

/-- The fire value (R29, R30): `windSelect`, `latch` and the slot's wind class decide whether a smoke vent in EXHAUST is
wind-selected. -/
def fireValue (a : Action) (c : VentClass) (windSelect latch : Bool) (w : WindClass) : FireValue :=
  match a, c with
  | .none, _ => .absent
  | .exhaust, .sv => if windSelect && !latch && decide (w = .windward) then .shut else .full
  | .exhaust, .cw => .shut
  | .exhaust, .iw => .full
  | .inlet, .iw => .full
  | .inlet, _ => .shut
  | .close, _ => .shut

/-- Source and composed target of a slot from its layers (R19, R20). -/
def composed (mode : OverrideMode) (v : VentCfg) (r : Slot) : Source × Option Nat :=
  match mode with
  | .open => (.ovr, some 1000)
  | .close => (.ovr, some 0)
  | .hold => (.ovr, r.hold)
  | .auto =>
    match r.fire with
    | .shut => (.fire, some 0)
    | .full => (.fire, some 1000)
    | .absent =>
      match r.bms with
      | some b => (.bms, some (min b r.ceiling))
      | none => (.rest, some (min v.rest r.ceiling))

/-- Claim permission of a policy record for a vent class (R33). -/
def PolicyCfg.claimAllowed (q : PolicyCfg) : VentClass → Bool
  | .sv => q.claimSv | .cw => q.claimCw | .iw => q.claimIw

/-- Fault-clear permission of a policy record for a vent class (R33, R103). -/
def PolicyCfg.clearAllowed (q : PolicyCfg) : VentClass → Bool
  | .sv => q.clearSv | .cw => q.clearCw | .iw => q.clearIw

namespace State

/-- The policy record a port's select names; select 0 is unrestricted (R33). -/
def policyOf (s : State) (p : PortId) : Option PolicyCfg :=
  match (s.portCfg p).policy with
  | 0 => none
  | 1 => some s.tables.policies[0]
  | 2 => some s.tables.policies[1]
  | 3 => some s.tables.policies[2]

/-- A BMS write by a port to a slot is allowed (R33). -/
def claimAllowed (s : State) (p : PortId) (i : SlotId) : Bool :=
  match s.policyOf p with
  | none => true
  | some q => q.claimAllowed (s.vent i).cls

/-- A fault clear by a port of a slot is allowed (R103). -/
def clearAllowed (s : State) (p : PortId) (i : SlotId) : Bool :=
  match s.policyOf p with
  | none => true
  | some q => q.clearAllowed (s.vent i).cls

/-- Override mode of the slot's zone. -/
def modeOf (s : State) (i : SlotId) : OverrideMode := (s.zone (s.vent i).zone).override

/-- Source and target the slot's layers give now. -/
def composedOf (s : State) (i : SlotId) : Source × Option Nat := composed (s.modeOf i) (s.vent i) (s.slot i)

/-- Recomposition (R20–R22): of a mapped slot in RUN; a changed source or target is handed to MOTION at once. -/
def recompose (i : SlotId) (s : State) : State :=
  if (s.vent i).mapped ∧ s.mode = .run then
    if ((s.slot i).source, (s.slot i).target) = s.composedOf i then s
    else (s.modSlot i fun r => { r with source := (s.composedOf i).1, target := (s.composedOf i).2 }).targetChange i
  else s

/-- The fire value the slot's zone and wind class give now (R29–R31). -/
def fireValueOf (s : State) (i : SlotId) : FireValue :=
  fireValue (s.zone (s.vent i).zone).action (s.vent i).cls (s.zoneCfg (s.vent i).zone).windSelect
    (s.zone (s.vent i).zone).latch (s.slot i).windClass

/-- Re-derives the fire value and then recomposes (R31). -/
def refire (i : SlotId) (s : State) : State := (s.modSlot i fun r => { r with fire := s.fireValueOf i }).recompose i

/-- FPLAN's announcement of a zone's action and latch: every member is re-derived and recomposed, in slot order (R31, R46). -/
def announceZone (z : ZoneId) (s : State) : State := s.eachSlot (s.zoneMembers z) refire

/-- The hold capture of a slot whose zone enters HOLD: its reported position, known or not (R25). -/
def captureHold (i : SlotId) (s : State) : State := s.modSlot i fun r => { r with hold := r.position }

/-- A member of a zone in HOLD whose capture is unknown takes it from the position just reported, and is recomposed (R26). -/
def fillHold (i : SlotId) (s : State) : State :=
  if s.modeOf i = .hold ∧ (s.slot i).hold = none ∧ (s.slot i).position ≠ none then (s.captureHold i).recompose i else s

/-- One BMS write that the policy has allowed: the entry is set or cleared and the slot is recomposed (R32). -/
def writeBms (i : SlotId) (v : Option Nat) (s : State) : State := (s.modSlot i fun r => { r with bms := v }).recompose i

/-- Clamping of building-side values (R34, R37). -/
def clamp (n : Nat) : Nat := min n 1000

end State

end Sys2Proof.Machine
end

