-- ==== Sys2Proof/Machine/Fplan.lean ====
section
/-!
DEFINITION. The Fire Plan Unit's shared operations (chapter 3): areas, the fallback latch, zone status, the list-change work
and entry to RUN.
-/

namespace Sys2Proof.Machine

/-- A mapped SV slot is usable: ONLINE and not in FAULT (R53). -/
def Slot.usable (r : Slot) : Bool := decide (r.link = .online) && decide (r.motion ≠ .fault)

/-- Status of an EXHAUST zone from its confirmed area, its required area and its timer (R61). -/
def exhaustStatus (conf areq : Nat) (t : Deadline) : Status :=
  if areq ≤ conf then .confirmed else if t = .expired then .shortfall else .opening

namespace State

/-- A_avail of a zone (R53). -/
def availOf (s : State) (z : ZoneId) : Nat :=
  ((s.smokeVents z).filter fun i => (s.slot i).usable && decide ((s.slot i).windClass ≠ .windward)).foldl
    (fun n i => n + (s.vent i).freeArea) 0

/-- A_conf of a zone (R58); the rounding is per slot. -/
def confOf (s : State) (z : ZoneId) : Nat :=
  (s.smokeVents z).foldl (fun n i => n + match (s.slot i).position with
    | some p => (s.vent i).freeArea * p / 1000
    | none => 0) 0

/-- Evaluates the status of an EXHAUST zone (R61); a change raises ZONE (R65). -/
def evalStatus (z : ZoneId) (s : State) : State :=
  if (s.zone z).action = .exhaust then
    let st := exhaustStatus (s.zone z).conf (s.zoneCfg z).areq (s.zone z).timer
    (s.modZone z fun zn => { zn with status := st }).raiseIf (decide (st ≠ (s.zone z).status)) .zone
  else s

/-- Recomputes A_conf and, in EXHAUST, evaluates the status (R59). -/
def recomputeConf (z : ZoneId) (s : State) : State :=
  (s.modZone z fun zn => { zn with conf := s.confOf z }).evalStatus z

/-- The latch test of R55: EXHAUST, latch clear and A_avail below A_req. -/
def latchFails (s : State) (z : ZoneId) : Bool :=
  decide ((s.zone z).action = .exhaust) && !(s.zone z).latch && decide ((s.zone z).avail < (s.zoneCfg z).areq)

/-- Recomputes A_avail and tests the latch; a latch that sets is announced to COMP and raises ZONE (R54, R55). -/
def recomputeAvail (z : ZoneId) (s : State) : State :=
  let t := s.modZone z fun zn => { zn with avail := s.availOf z }
  if t.latchFails z then ((t.modZone z fun zn => { zn with latch := true }).announceZone z).raiseAll .zone else t

/-- A change of link, fault or class of one slot: FPLAN recomputes A_avail of its zone if it is an SV slot (R54). -/
def availChanged (i : SlotId) (s : State) : State :=
  if (s.vent i).cls = .sv then s.recomputeAvail (s.vent i).zone else s

/-- A change of the known position of one slot: FPLAN recomputes A_conf of its zone if it is an SV slot (R59). -/
def confChanged (i : SlotId) (s : State) : State :=
  if (s.vent i).cls = .sv then s.recomputeConf (s.vent i).zone else s

/-! ## Zone actions (R50, R51) -/

/-- The action of a zone from an alarm list and the plan table (R50): the first entry that is not NONE, in list order. -/
def deriveAction (s : State) (alarms : List ZoneId) (z : ZoneId) : Action :=
  match alarms.find? fun a => decide (s.planAt a z ≠ .none) with
  | some a => s.planAt a z
  | none => .none

/-- R51 for a zone whose derived action differs from the one it holds: its timer, latch, status and areas. The new latch is
announced later (R46 step 5). -/
def changeAction (z : ZoneId) (new : Action) (s : State) : State :=
  if (s.zone z).action = new then s
  else if new = .exhaust then
    let t := s.modZone z fun zn =>
      { zn with action := .exhaust, latch := false, timer := .running ((s.zoneCfg z).deadline * 1000), status := .opening
                avail := s.availOf z, conf := s.confOf z }
    (t.modZone z fun zn => { zn with latch := t.latchFails z }).evalStatus z
  else if (s.zone z).action = .exhaust then
    s.modZone z fun zn => { zn with action := new, timer := .stopped, latch := false, status := .quiet }
  else s.modZone z fun zn => { zn with action := new }

/-- A zone's action, status or latch differs between two states (R65). -/
def zoneDiffers (s t : State) (z : ZoneId) : Bool :=
  decide ((s.zone z).action ≠ (t.zone z).action) || decide ((s.zone z).status ≠ (t.zone z).status) ||
    decide ((s.zone z).latch ≠ (t.zone z).latch)

/-- A zone's action or latch differs between two states (R46 step 5). -/
def announced (s t : State) (z : ZoneId) : Bool :=
  decide ((s.zone z).action ≠ (t.zone z).action) || decide ((s.zone z).latch ≠ (t.zone z).latch)

/-- Derives every zone's action from the list (R50, R51). -/
def deriveZones (s : State) : State := s.eachZone allZones fun z t => t.changeAction z (t.deriveAction t.alarms z)

/-- The work of a change of the alarm list (R46); while UNCONFIGURED only the list and the ALARM notice (R47). -/
def changeList (new : List ZoneId) (s : State) : State :=
  let t := { s with alarms := new }
  if s.mode = .run then
    let u := if s.alarms.isEmpty = new.isEmpty then t else t.announceLimit (!new.isEmpty)
    let v := u.deriveZones
    let w := v.eachZone (allZones.filter (u.announced v)) announceZone
    (w.raiseAll .alarm).raiseIf (allZones.any (u.zoneDiffers v)) .zone
  else t.raiseAll .alarm

/-- FPLAN's part of entry to RUN (R52): actions from the recorded list, the permit limit if the list is not empty, every
action and latch announced, both sums of every zone, and ZONE if a zone changed (R65). -/
def startFplan (s : State) : State :=
  let t := if s.alarms.isEmpty then s else s.announceLimit true
  let u := t.deriveZones
  let v := u.eachZone allZones fun z w => w.modZone z fun zn => { zn with avail := w.availOf z, conf := w.confOf z }
  (v.eachZone allZones announceZone).raiseIf (allZones.any (t.zoneDiffers u)) .zone

end State

end Sys2Proof.Machine
end

