-- ==== Sys2Proof/Machine/Faults.lean ====
section
/-!
DEFINITION. MOTION's events that reach FPLAN: entry to FAULT (R93), fault clears (R102), link events (R92), and the judging of
accepted replies (R93–R101). These are the block's own exceptions: each is a next state.
-/

namespace Sys2Proof.Machine.State

/-! ## Entry to FAULT (R93) -/

/-- A STOP for the slot is placed or in flight. -/
def stopWanted (s : State) (i : SlotId) : Bool := s.placedOrFlying (s.vent i).line (Trans.isStopOf i)

/-- Entry to FAULT with a code (R93 steps 1–6; `dir` and `deferred` by notes/assumptions/7.md). `stop` says whether a STOP is
called for: the reply's moving flag, or a travel timeout (R99). -/
def enterFault (i : SlotId) (code : FaultCode) (stop : Bool) (s : State) : State :=
  let l := (s.vent i).line
  let a := (s.endPreemption i).stopTimers i
  let b := a.modSlot i fun r => { r with motion := .fault, fault := code, cls := none, dir := none, deferred := false }
  let c := ((b.giveBack i).leaveQueue i).settle l
  let d := if stop && !c.stopWanted i then c.place l (.stop i) else c
  (d.availChanged i).raiseAll .ventFault

/-- A fault clear of a slot in FAULT (R102): the code becomes NONE, FPLAN is told, and the slot becomes IDLE and is
evaluated if its link is ONLINE, or DETACHED otherwise. -/
def clearFault (i : SlotId) (s : State) : State :=
  if (s.slot i).link = .online then
    ((((s.becomeIdle i).modSlot i fun r => { r with fault := .none }).availChanged i).evaluateIdle i)
  else
    (s.modSlot i fun r => { r with motion := .detached, fault := .none }).availChanged i

/-! ## Link events (R92) -/

/-- Link loss (R92): in any motion state the slot becomes DETACHED, gives its permit back or leaves the queue; its timers
stop, its stopped-short count becomes 0 and its fault code NONE. FPLAN recomputes its areas at the event of the link change
itself. (`dir` and `deferred` by notes/assumptions/7.md.) -/
def linkLoss (i : SlotId) (s : State) : State :=
  if (s.slot i).motion = .detached then s
  else
    ((((((s.endPreemption i).stopTimers i).modSlot i fun r =>
      { r with motion := .detached, fault := .none, stoppedShort := 0, cls := none, dir := none, deferred := false }).giveBack
        i).leaveQueue i).settle (s.vent i).line)

/-- Link ONLINE in DETACHED (R92): the slot becomes IDLE, the flags of the reply are judged, and without a fault flag the
slot is evaluated. -/
def linkOnline (i : SlotId) (s : State) : State :=
  if (s.slot i).motion = .detached then
    let t := s.becomeIdle i
    match (t.slot i).faultFlag with
    | some code => t.enterFault i code (t.slot i).moving
    | none => t.evaluateIdle i
  else s

/-- Profiling ended in a refusal, in DETACHED (R92, R127): FAULT with PROFILE_REFUSED. -/
def profileRefused (i : SlotId) (s : State) : State :=
  if (s.slot i).motion = .detached then s.enterFault i .profileRefused (s.slot i).moving else s

/-! ## Judging a reply (R93–R101) -/

/-- The MOVE reply in STARTING (R96): the slot becomes MOVING with its travel and poll timers; a deferred target change is
then handled as in MOVING. -/
def moveAnswered (i : SlotId) (s : State) : State :=
  let t := s.modSlot i fun r =>
    { r with
      motion := .moving
      travel := .running ((s.vent i).travelLimit * 1000)
      poll := .running ((s.lineCfg (s.vent i).line).movePoll * 100)
      deferred := false }
  if (s.slot i).deferred then t.retarget i else t

/-- The move is complete (R97): within deadband with the moving flag clear, or at the end flag that agrees. -/
def moveComplete (v : VentCfg) (r : Slot) : Bool :=
  match r.target, r.position with
  | some t, some p => (decide (gap t p ≤ v.deadband) && !r.moving) || r.endFlagAgrees t
  | _, _ => false

/-- A poll reply in MOVING without a fault flag (R97): completion, stopped short, or still travelling. -/
def pollAnswered (i : SlotId) (s : State) : State :=
  if moveComplete (s.vent i) (s.slot i) then (s.releaseToIdle i).evaluateIdle i
  else if (s.slot i).moving then s
  else if (s.slot i).stoppedShort = 0 then (s.modSlot i fun r => { r with stoppedShort := 1 }).placeMove i
  else s.enterFault i .stalled false

/-- The dwell of a reversal ends (R101): a new move with the permit held, or the permit is released. -/
def dwellEnds (i : SlotId) (s : State) : State :=
  match s.evaluate i with
  | some d =>
    (((s.setMove i d).modSlot i fun r => { r with motion := .starting, dwell := .stopped, stoppedShort := 0, deferred := false }).placeMove
      i).settle (s.vent i).line
  | none => s.releaseToIdle i

/-- The STOP's reply in STOPPING without a fault flag (R100); a reverse dwell of 0 ends at once (R101). -/
def stopAnswered (i : SlotId) (k : Continuation) (s : State) : State :=
  match k with
  | .release | .preemption => (s.releaseToIdle i).evaluateIdle i
  | .reversal =>
    let ms := (s.lineCfg (s.vent i).line).revDwell * 100
    if ms = 0 then (s.modSlot i fun r => { r with motion := .dwell }).dwellEnds i
    else s.modSlot i fun r => { r with motion := .dwell, dwell := .running ms }

/-- A reply accepted for the slot, reported to MOTION with the transaction it answers (R121 step 4). Fault flags are judged
first in every state but DETACHED and FAULT, then the refused flag of a MOVE reply in STARTING or MOVING (R93). -/
def judge (i : SlotId) (t : Trans) (s : State) : State :=
  let r := s.slot i
  match r.motion with
  | .detached | .fault => s
  | m =>
    match r.faultFlag with
    | some code => s.enterFault i code r.moving
    | none =>
      if t.kind = 2 ∧ r.replyRefused ∧ (m = .starting ∨ m = .moving) then s.enterFault i .moveRefused r.moving
      else
        match m with
        | .idle => s.evaluateIdle i
        | .queued => s.evaluateQueued i
        | .starting => if t.kind = 2 then s.moveAnswered i else s
        | .moving => if t.kind = 4 ∨ t.kind = 5 then s.pollAnswered i else s
        | .stopping k => if t.kind = 1 then s.stopAnswered i k else s
        | .dwell | .detached | .fault => s

end Sys2Proof.Machine.State
end

