-- ==== Sys2Proof/Machine/Controller.lean ====
section
/-!
DEFINITION. The drive line controller's shared operations (chapter 6): receiving a reply, accepting it, link states,
attempts and exhaustion, line reset, and the controller's part of CFG_DONE and of a warm restart.
-/

namespace Sys2Proof.Machine.State

/-! ## Link states (R125–R129) -/

/-- The lowest valid profile entry of a slot from an index on (R10, R126, R127). -/
def validEntryFrom (s : State) (i : SlotId) (n : Nat) : Option (Fin 8) :=
  (List.finRange 8).find? fun e => decide (n ≤ e.val) && (s.tables.profiles[i][e]).valid

/-- Entry into OFFLINE (R13, R124, R131, R133): position unknown, flags clear, idle polling and profiling stopped. The probe
timer is left to the event that calls this. -/
def setOffline (i : SlotId) (s : State) : State :=
  s.modSlot i fun r =>
    { r with link := .offline, position := none, flags := 0, idlePoll := .stopped, profileNext := none, refusedMark := false }

/-- Starts a slot's probe timer with the probe interval. -/
def startProbeTimer (i : SlotId) (s : State) : State :=
  s.modSlot i fun r => { r with probe := .running ((s.lineCfg (s.vent i).line).probe * 1000) }

/-- Stops a slot's probe timer. -/
def stopProbeTimer (i : SlotId) (s : State) : State := s.modSlot i fun r => { r with probe := .stopped }

/-- Starts a slot's idle-poll timer with the idle-poll interval. -/
def startIdleTimer (i : SlotId) (s : State) : State :=
  s.modSlot i fun r => { r with idlePoll := .running ((s.lineCfg (s.vent i).line).idlePoll * 1000) }

/-- Entry into PROFILING at a profile entry: the PROFILE for it is placed (R126, R129). -/
def startProfiling (i : SlotId) (e : Fin 8) (s : State) : State :=
  (s.modSlot i fun r => { r with link := .profiling, profileNext := some e, refusedMark := false }).place (s.vent i).line
    (.profile i e)

/-- Entry into ONLINE (R126, R127): profiling is over and the idle-poll timer starts. -/
def setOnline (i : SlotId) (s : State) : State :=
  (s.modSlot i fun r => { r with link := .online, profileNext := none, refusedMark := false }).startIdleTimer i

/-- An accepted reply from an OFFLINE slot takes it out of OFFLINE (R126); a PROBE still pending for it is withdrawn
(R123). -/
def probeAnswered (i : SlotId) (s : State) : State :=
  let t := (s.stopProbeTimer i).withdraw (s.vent i).line fun u => decide (u = .probe i)
  let u := match s.validEntryFrom i 0 with
    | some e => t.startProfiling i e
    | none => (t.setOnline i).linkOnline i
  (u.raiseAll .ventLink).availChanged i

/-- An accepted reply to a PROFILE of a PROFILING slot (R127). -/
def profileAnswered (i : SlotId) (s : State) : State :=
  let mark := (s.slot i).refusedMark || (s.slot i).replyRefused
  let from' := match (s.slot i).profileNext with | some e => e.val + 1 | none => 0
  match s.validEntryFrom i from' with
  | some e =>
    (s.modSlot i fun r => { r with profileNext := some e, refusedMark := mark }).place (s.vent i).line (.profile i e)
  | none =>
    let t := s.setOnline i
    let u := if mark then t.profileRefused i else t.linkOnline i
    (u.raiseAll .ventLink).availChanged i

/-- A reply from an ONLINE slot that carries profile_lost, whose profile has a valid entry (R129). -/
def profileLostAt (i : SlotId) (e : Fin 8) (s : State) : State :=
  let t := s.modSlot i fun r => { r with idlePoll := .stopped }
  let u := t.withdraw (s.vent i).line fun x => x.isMoveOf i || decide (x = .pollMoving i) || decide (x = .pollIdle i)
  (((u.startProfiling i e).linkLoss i).raiseAll .ventLink).availChanged i

/-- The change of link state an accepted reply brings (R121 step 3). -/
def linkStep (i : SlotId) (t : Trans) (s : State) : State :=
  match (s.slot i).link with
  | .offline => s.probeAnswered i
  | .profiling => if t.kind = 3 then s.profileAnswered i else s
  | .online =>
    if (s.slot i).profileLost then
      match s.validEntryFrom i 0 with
      | some e => s.profileLostAt i e
      | none => s
    else s
  | .unmapped => s

/-! ## Replies (R120, R121) -/

/-- Position a reply carries; above 1000 is recorded as 1000 (R13, R121). -/
def replyPosition (hi lo : Byte) : Nat := min (word16 hi lo).toNat 1000

/-- An accepted reply of the slot's transaction (R121 steps 1–5). FPLAN and COMP read the record as step 1 leaves it. -/
def acceptReply (l : LineId) (i : SlotId) (t : Trans) (flags hi lo : Byte) (s : State) : State :=
  let a := (s.endFlight l).modSlot i fun r => { r with position := some (replyPosition hi lo), flags := flags }
  let b := ((a.confChanged i).fillHold i).modDline l fun d => { d with failures := 0 }
  (((b.linkStep i t).judge i t).takeNext l)

/-- A complete reply is tested (R120): the check, then the address. A failed test puts the wait back with the time the reply
timer had left; the reply of an abandoned transaction ends it unrecorded (R133). -/
def testReply (l : LineId) (f : Flight) (left : Nat) (bytes : List Byte) (s : State) : State :=
  match bytes, f.trans.slot? with
  | [addr, flags, hi, lo, check], some i =>
    if sumsToZero [addr, flags, hi, lo, check] ∧ addr = 0x80 + s.busByte i then
      if f.abandoned then s.takeNext l else s.acceptReply l i f.trans flags hi lo
    else s.modDline l fun d => { d with flight := some { f with phase := .waiting left } }
  | _, _ => s.modDline l fun d => { d with flight := some { f with phase := .waiting left } }

/-- A byte received on a line (R119, R120): discarded while nothing is in flight or the controller transmits; otherwise it
begins or continues a reply, and the fifth completes it. -/
def receiveByte (l : LineId) (b : Byte) (s : State) : State :=
  match (s.dline l).flight with
  | some f =>
    match f.phase with
    | .waiting ms => s.modDline l fun d => { d with flight := some { f with phase := .receiving ms [b] 2 } }
    | .receiving left bytes _ =>
      if bytes.length < 4 then
        s.modDline l fun d => { d with flight := some { f with phase := .receiving left (bytes ++ [b]) 2 } }
      else s.testReply l f left (bytes ++ [b])
    | .sending | .ended => s
  | none => s

/-- The gap between two bytes of a reply has passed 2 ms: the reply is discarded and the reply timer resumes (R120). -/
def replyGap (l : LineId) (s : State) : State :=
  match (s.dline l).flight with
  | some f =>
    match f.phase with
    | .receiving left _ _ => s.modDline l fun d => { d with flight := some { f with phase := .waiting left } }
    | .sending | .waiting _ | .ended => s
  | none => s

/-- The last byte of a request has been sent (R119): the reply timer starts, or a STOP_ALL ends. -/
def requestSent (l : LineId) (s : State) : State :=
  match (s.dline l).flight with
  | some f =>
    match f.phase with
    | .sending =>
      if f.trans = .stopAll then s.takeNext l
      else s.modDline l fun d => { d with flight := some { f with phase := .waiting (s.replyTimeout l) } }
    | .waiting _ | .receiving _ _ _ | .ended => s
  | none => s

/-! ## Exhaustion and line reset (R122–R132) -/

/-- FPLAN recomputes the sums of some zones once, from the state as an event leaves it (R59, R131). Neither rule orders the zones:
they are taken as listed, zone by zone, each latch that sets announced before the next zone (DESIGN CHOICE,
notes/assumptions/31.md). -/
def recomputeZones (s : State) (zs : List ZoneId) : State :=
  s.eachZone zs fun z t => (t.recomputeAvail z).recomputeConf z

/-- The zones with a member on the line, in ascending order (notes/assumptions/31.md). -/
def zonesOnLine (s : State) (l : LineId) : List ZoneId :=
  allZones.filter fun z => (s.lineMembers l).any fun i => decide ((s.vent i).zone = z)

/-- A slot enters OFFLINE by exhaustion (R124 steps 1–5). -/
def dropSlot (i : SlotId) (s : State) : State :=
  (((((s.setOffline i).withdraw (s.vent i).line (Trans.isOtherOf i)).startProbeTimer i).linkLoss i).raiseAll .ventLink)

/-- The line enters LRESET (R131). -/
def enterLineReset (l : LineId) (s : State) : State :=
  let a := s.modDline l fun d =>
    { d with state := .lreset, queue := [], flight := none, failures := 0, reset := .running (s.lineResetTime l) }
  let b := a.eachSlot ((a.lineMembers l).filter fun i => decide ((a.slot i).link ≠ .offline)) fun i t => (t.setOffline i).linkLoss i
  let c := b.eachSlot (b.lineMembers l) stopProbeTimer
  (c.raiseAll .line).recomputeZones (c.zonesOnLine l)

/-- A transaction is exhausted (R124). A slot not yet OFFLINE drops; the failure counter rises, and at the fail limit the line
resets (R131), FPLAN then working once from the state the whole event leaves. -/
def exhausted (l : LineId) (i : SlotId) (t : Trans) (s : State) : State :=
  let a := s.endFlight l
  if t.kind = 6 then a.takeNext l
  else
    let dropped := decide ((s.slot i).link ≠ .offline)
    let b := if dropped then a.dropSlot i else a
    let c := b.modDline l fun d => { d with failures := d.failures + 1 }
    if (s.lineCfg l).failLimit ≤ (c.dline l).failures then c.enterLineReset l
    else (if dropped then (c.availChanged i).confChanged i else c).takeNext l

/-- The reply timer expires (R122, R123): an abandoned or withdrawn transaction ends, an attempt below the setting is
followed by the next one, and the last one exhausts the transaction. -/
def replyTimeoutAt (l : LineId) (s : State) : State :=
  match (s.dline l).flight with
  | some f =>
    match f.phase with
    | .waiting _ =>
      if f.abandoned || f.withdrawn then s.takeNext l
      else if f.attempt < (s.lineCfg l).attempts then
        s.modDline l fun d => { d with flight := some { f with attempt := f.attempt + 1, phase := .sending } }
      else
        match f.trans.slot? with
        | some i => s.exhausted l i f.trans
        | none => s.takeNext l
    | .sending | .receiving _ _ _ | .ended => s
  | none => s

/-- Places a PROBE for every mapped member in slot order and starts each member's probe timer (R125, R132, R133). -/
def probeAll (l : LineId) (s : State) : State :=
  s.eachSlot (s.lineMembers l) fun i t => (t.place l (.probe i)).startProbeTimer i

/-- The line-reset timer expires (R132): the line returns to RUN. -/
def leaveLineReset (l : LineId) (s : State) : State :=
  let owed := (s.dline l).owed
  let a := s.modDline l fun d => { d with state := .run, reset := .stopped, owed := false }
  let b := if owed then a.place l .stopAll else a
  ((b.probeAll l).raiseAll .line).settle l

/-- The controller's part of a warm restart (R133). MOTION has made every slot DETACHED; FPLAN's work follows for all. -/
def warmLine (l : LineId) (s : State) : State :=
  let a := s.modDline l fun d =>
    { d with
      queue := []
      flight := d.flight.map fun f => { f with abandoned := true }
      failures := 0
      owed := decide (d.state = .lreset) }
  let b := a.eachSlot (a.lineMembers l) fun i t => (t.setOffline i).stopProbeTimer i
  if (s.dline l).state = .lreset then b else (b.place l .stopAll).probeAll l

end Sys2Proof.Machine.State
end

