-- ==== Sys2Proof/Machine/Wxp.lean ====
section
/-!
DEFINITION. The Weather Processor's shared operations (chapter 4): the receiver, the record tests, smoothing, gate, storm and
rain, classification, ceilings and the hand-on to FPLAN and COMP.
-/

namespace Sys2Proof.Machine

/-! ## Arithmetic (R78–R85) -/

/-- The signed shortest difference from `b` to `a` on the circle, in −1800 to 1799 (R78, R84). -/
def angleDiff (a b : Nat) : Int := ((a : Int) - b + 5400) % 3600 - 1800

/-- Smoothed direction (R78): the step is truncated toward zero. -/
def smoothDir (k sdir theta : Nat) : Nat :=
  (((sdir : Int) + (angleDiff theta sdir).tdiv (2 ^ k) + 3600) % 3600).toNat

/-- Smoothed speed (R79). -/
def smoothSpeed (k sv v : Nat) : Nat := ((sv : Int) + ((v : Int) - sv).tdiv (2 ^ k)).toNat

/-- The gust: the largest entry of the ring (R80). -/
def gust (ring : Vector Nat 8) : Nat := ring.toList.foldl max 0

/-- The oldest entry leaves the ring and the newest joins it (R80). -/
def pushGust (ring : Vector Nat 8) (v : Nat) : Vector Nat 8 :=
  #v[ring[1], ring[2], ring[3], ring[4], ring[5], ring[6], ring[7], v]

/-- The gate after a record (R81). -/
def gateAfter (c : WeatherCfg) (sv : Nat) (gate : Bool) : Bool :=
  if c.vOn ≤ sv then true else if sv < c.vOff then false else gate

/-- Storm after a record (R82). -/
def stormAfter (c : WeatherCfg) (g : Nat) : Tri := if c.vStorm ≤ g then .active else .inactive

/-- The rain counter after a live record (R83). -/
def rainCountAfter (c : WeatherCfg) (wet : Bool) (n : Nat) : Nat := if wet then c.rainHold else n - 1

/-- The rain state after a record (R83). -/
def rainAfter (wet : Bool) (n : Nat) : Tri := if 0 < n ∨ wet then .active else .inactive

/-- Wind class of a slot (R84). -/
def classify (c : WeatherCfg) (w : Weather) (f : Facing) : WindClass :=
  if !w.live || !w.gate then .calm
  else
    match f with
    | .flat => .cross
    | .angle phi =>
      let a := (angleDiff phi w.sdir).natAbs
      if a < c.wHalf then .windward else if 1800 - c.lHalf < a then .leeward else .cross

/-- Weather ceiling of a slot (R85). -/
def ceilingOf (c : WeatherCfg) (w : Weather) (cls : WindClass) : Nat :=
  if !w.live then 0
  else if w.rain = .active then 0
  else if w.storm = .active then 0
  else if cls = .windward then c.cWind
  else 1000

/-- Readings of a valid record (R71). -/
structure Reading where
  dir : Nat
  speed : Nat
  rain : Bool
  deriving DecidableEq, Repr

/-- The direction of a record is valid (R71). -/
def Reading.dirValid (r : Reading) : Bool := decide (r.dir ≤ 3599)

/-- WXP after the first valid record while STALE (R76): everything is taken from this record. -/
def reseed (c : WeatherCfg) (r : Reading) (w : Weather) : Weather :=
  let n := if r.rain then c.rainHold else 0
  { w with
    live := true
    sdir := if r.dirValid then r.dir else 0
    sv := r.speed
    ring := Vector.replicate 8 r.speed
    rainCount := n
    gate := gateAfter c r.speed false
    storm := stormAfter c r.speed
    rain := rainAfter r.rain n }

/-- WXP after a valid record while LIVE (R77 steps 1–5). -/
def liveRecord (c : WeatherCfg) (r : Reading) (w : Weather) : Weather :=
  let sv := smoothSpeed c.k w.sv r.speed
  let ring := pushGust w.ring r.speed
  let n := rainCountAfter c r.rain w.rainCount
  { w with
    sdir := if r.dirValid then smoothDir c.k w.sdir r.dir else w.sdir
    sv := sv
    ring := ring
    rainCount := n
    gate := gateAfter c sv w.gate
    storm := stormAfter c (gust ring)
    rain := rainAfter r.rain n }

/-- The last record as QUERY_WEATHER shows it (R72, R88). -/
def Reading.last (r : Reading) : LastRecord where
  received := true
  dir := r.dir
  speed := r.speed
  rain := r.rain
  held := !r.dirValid

namespace State

/-! ## Classes, ceilings and the hand-on (R84–R86) -/

/-- Wind class a slot has under the present weather (R84). -/
def windClassOf (s : State) (i : SlotId) : WindClass := classify s.tables.weather s.wx (s.vent i).facing

/-- Writes one slot's class and ceiling into its record (R84, R85). -/
def writeClass (i : SlotId) (s : State) : State :=
  s.modSlot i fun r =>
    { r with windClass := s.windClassOf i, ceiling := ceilingOf s.tables.weather s.wx (s.windClassOf i) }

/-- Writes every mapped slot's class and ceiling into its record. -/
def writeClasses (s : State) : State := s.eachSlot s.mappedSlots writeClass

/-- The hand-on (R86): FPLAN first, each zone with a changed SV member once, in ascending order; then COMP, each mapped slot
whose class or ceiling changed, in slot order. `s` is the state before the classes were written. -/
def handOn (s t : State) : State :=
  let classChanged := fun (i : SlotId) => decide ((s.slot i).windClass ≠ (t.slot i).windClass)
  let zs := allZones.filter fun z => (t.smokeVents z).any classChanged
  let u := t.eachZone zs recomputeAvail
  u.eachSlot (t.mappedSlots.filter fun i => classChanged i || decide ((s.slot i).ceiling ≠ (t.slot i).ceiling)) refire

/-- Classifies every slot after a change of WXP and hands the changes on (R84–R86). -/
def reclassify (s : State) : State := s.handOn s.writeClasses

/-- The gate, storm, rain or LIVE state differs (R87). -/
def weatherDiffers (v w : Weather) : Bool :=
  decide (v.live ≠ w.live) || decide (v.gate ≠ w.gate) || decide (v.storm ≠ w.storm) || decide (v.rain ≠ w.rain)

/-- A valid record (R72, R74, R76, R77): recorded in both modes; processed in RUN alone. -/
def validRecord (r : Reading) (s : State) : State :=
  let a := s.modWx fun w => { w with last := r.last }
  if s.mode = .run then
    let c := s.tables.weather
    let b := a.modWx fun w =>
      { (if w.live then liveRecord c r w else reseed c r w) with stale := .running (c.staleTime * 1000) }
    b.reclassify.raiseIf (weatherDiffers s.wx b.wx) .weather
  else a

/-- WXP becomes STALE (R75). -/
def goStale (s : State) : State :=
  let a := s.modWx fun w => { w with live := false, stale := .stopped, gate := false, storm := .unknown, rain := .unknown }
  a.reclassify.raiseAll .weather

/-! ## The receiver (R68–R71) -/

/-- Adds one to the link error count (R73). -/
def linkError (s : State) : State := s.modWx fun w => { w with errors := saturate w.errors }

/-- A complete record (R70, R71). -/
def takeRecord (bytes : List Byte) (s : State) : State :=
  match bytes with
  | [_, dirHi, dirLo, spdHi, spdLo, flags, _] =>
    if sumsToZero bytes then
      if flags.getLsbD 1 then s.linkError
      else
        s.validRecord
          { dir := (word16 dirHi dirLo).toNat, speed := min (word16 spdHi spdLo).toNat 600, rain := flags.getLsbD 0 }
    else s.linkError
  | _ => s

/-- A byte on the weather link (R68). -/
def weatherByteIn (b : Byte) (s : State) : State :=
  if s.wx.rx = [] then
    if b = 0xA5 then s.modWx fun w => { w with rx := [b], gap := .running 20 } else s
  else if s.wx.rx.length < 6 then s.modWx fun w => { w with rx := w.rx ++ [b], gap := .running 20 }
  else (s.modWx fun w => { w with rx := [], gap := .stopped }).takeRecord (s.wx.rx ++ [b])

/-- A record being assembled is thrown away and counted (R69). -/
def dropRecord (s : State) : State :=
  if s.wx.rx = [] then s else (s.modWx fun w => { w with rx := [], gap := .stopped }).linkError

end State

end Sys2Proof.Machine
end

