-- ==== Sys2Proof/Machine/Records.lean ====
section
/-!
DEFINITION. The reply records of R176 and the capture of the records of a query (R17, R66, R88, R114, R135, R162, R164, R165),
and the event wrapper every command of `exec` goes through: the reset pin (R173) and the free capture schedule (R162).
-/

namespace Sys2Proof.Machine

namespace State

/-! ## Records (R176) -/

/-- Vent status record, 8 bytes (R17). -/
def ventRecord (s : State) (i : SlotId) : List Byte :=
  let r := s.slot i
  byte8 i.val ++ bytes16 (encodeOpt r.target) ++ bytes16 (encodeOpt r.position) ++ [r.flags] ++
    byte8 (r.motion.code + 8 * r.fault.code + 64 * bit r.permit + 128 * bit r.bms.isSome) ++
    byte8 (r.source.code + 4 * r.windClass.code + 16 * r.link.code)

/-- The alarm list part: count and eight zone numbers, 0xFF beyond the count (R66, R164). -/
def alarmRecord (s : State) : List Byte :=
  byte8 s.alarms.length ++ ((s.alarms.map fun (z : ZoneId) => BitVec.ofNat 8 z.val) ++ List.replicate 8 (0xFF : Byte)).take 8

/-- Zone record, 13 bytes (R66). -/
def zoneRecord (s : State) (z : ZoneId) : List Byte :=
  let zn := s.zone z
  byte8 z.val ++ byte8 (zn.action.code + 4 * zn.status.code + 16 * bit zn.latch + 32 * zn.timer.code) ++
    byte8 zn.override.code ++ bytes16 (s.zoneCfg z).areq ++ bytes24 zn.avail ++ bytes24 zn.conf ++ bytes16 (tenths zn.timer.left)

/-- Byte 0 of the weather record; READ_STATUS carries it as the weather summary. -/
def weatherSummary (s : State) : List Byte :=
  byte8 (bit s.wx.live + 2 * bit s.wx.gate + 4 * s.wx.storm.code + 16 * s.wx.rain.code)

/-- Weather record, 17 bytes (R88). -/
def weatherRecord (s : State) : List Byte :=
  let w := s.wx
  s.weatherSummary ++ bytes16 w.sdir ++ bytes16 w.sv ++ bytes16 (gust w.ring) ++ byte8 w.rainCount ++
    bytes16 (tenths w.stale.left) ++ bytes16 w.last.dir ++ bytes16 w.last.speed ++
    byte8 (bit w.last.rain + 2 * bit w.last.held + 4 * bit w.last.received) ++ bytes16 w.errors

/-- Byte 0 of a line record; READ_STATUS carries it for each line. -/
def lineSummary (s : State) (l : LineId) : List Byte :=
  byte8 ((s.mline l).power.code + 4 * (s.dline l).state.code)

/-- Queue entries of a permit class (R114). -/
def queuedOfClass (s : State) (l : LineId) (c : Fin 3) : Nat :=
  ((s.mline l).queue.filter fun i => decide ((s.slot i).cls = some c)).length

/-- Members of a line in a link state (R135). -/
def membersIn (s : State) (l : LineId) (k : Link) : Nat :=
  ((s.lineMembers l).filter fun i => decide ((s.slot i).link = k)).length

/-- Line record, 16 bytes (R165). -/
def lineRecord (s : State) (l : LineId) : List Byte :=
  let m := s.mline l
  let d := s.dline l
  s.lineSummary l ++ byte8 (s.limit l) ++ byte8 m.holders.length ++
    byte8 (s.queuedOfClass l 0) ++ byte8 (s.queuedOfClass l 1) ++ byte8 (s.queuedOfClass l 2) ++
    byte8 m.preempting ++ bytes16 d.reset.left ++ byte8 d.failures ++ byte8 d.queue.length ++
    byte8 (match s.inFlight l with | some f => f.trans.kind | none => 0xFF) ++
    byte8 (match (s.inFlight l).bind fun f => f.trans.slot? with | some i => i.val | none => 0xFF) ++
    byte8 (s.membersIn l .offline) ++ byte8 (s.membersIn l .profiling) ++ byte8 (s.membersIn l .online)

/-- READ_STATUS payload of a port, 37 bytes (R164). -/
def statusRecord (s : State) (p : PortId) : List Byte :=
  let pt := s.port p
  let e := s.eng
  let w := e.window
  byte8 0x41 ++ byte8 0x01 ++ byte8 s.mode.code ++ bytes16 pt.flags.toNat ++ bytes16 (s.portCfg p).enables.toNat ++ bytes16 pt.errors ++
    byte8 (match e.op with | none => 0 | some o => if o.feeding then 2 else 1) ++
    byte8 (match e.op with | none => 0 | some o => o.kind.code) ++
    byte8 e.outcome.code ++ byte8 e.written ++ byte8 e.skipped ++ byte8 e.refused ++ byte8 e.remaining ++
    byte8 e.fifo.length ++
    byte8 (bit (decide (0 < e.fifo.length)) + 2 * bit (decide (8 ≤ e.fifo.length)) + 4 * bit (decide (e.fifo.length = 16))) ++
    byte8 w.xs ++ byte8 w.xe ++ byte8 w.ys ++ byte8 w.ye ++ byte8 (bit w.mv + 2 * bit w.mx + 4 * bit w.my) ++
    s.alarmRecord ++ s.weatherSummary ++ allLines.flatMap s.lineSummary

/-- The bytes of one record of a query, as the state stands (R17, R66, R88, R165). -/
def captureBytes (s : State) : Capture → List Byte
  | .vent i => s.ventRecord i
  | .alarmList => s.alarmRecord
  | .zone z => s.zoneRecord z
  | .weather => s.weatherRecord
  | .line l => s.lineRecord l

end State

/-! ## Answers of the blocks -/

/-- A block's answer to a command: a reply formed whole at the take, or a query reply to prepare, with the bytes that follow
the last record (R162). -/
inductive Answer where
  | reply (r : Reply)
  | prepare (todo : List Capture) (tail : List Byte)
  deriving DecidableEq, Repr

/-- An answer with a status and no payload; a status that refuses carries none (R176). -/
def answer (c : StatusCode) : Answer := .reply { status := c }

/-- An OK answer with a payload. -/
def answerOk (payload : List Byte) : Answer := .reply { payload := payload }

/-! ## The capture schedule (R162) -/

/-- Captures the first `n` records still to capture from a state. -/
def Prep.capture (s : State) (n : Nat) (q : Prep) : Prep :=
  { q with
    todo := q.todo.drop n
    bytes := q.bytes ++ (q.todo.take n).flatMap s.captureBytes
    taken := q.taken + (q.todo.take n).length }

/-- One event has had its effect: the records the free schedule calls for are captured (R17, R162; notes/assumptions/5.md). -/
def Prep.advance (s : State) (q : Prep) : Prep :=
  { q.capture s (Config.captureSchedule q.take q.events - q.taken) with events := q.events + 1 }

/-- A port's preparation after an event. -/
def Port.advance (s : State) (pt : Port) : Port :=
  match pt.prep with
  | none => pt
  | some q => { pt with prep := some (q.advance s) }

/-- Every port's preparation after an event. -/
def State.advanceCaptures (s : State) : State :=
  ((s.modPort .f (Port.advance s)).modPort .b (Port.advance s)).modPort .o (Port.advance s)

/-- One event of the part: while the reset pin is asserted it is not taken (R173); otherwise it has its effect, and the
preparations go on. Every event is a next state. -/
def event (f : State → State) (s : State) : Host.Outcome State Fault Refusal :=
  .next (if s.resetPin then s else (f s).advanceCaptures)

end Sys2Proof.Machine
end

