-- ==== Sys2Proof/Machine/Weng.lean ====
section
/-!
DEFINITION. The Window Engine's shared operations (chapter 7): scan order, requests, taking an operation, visits, items, the
FIFO, and the ends of an operation. Its port-facing commands are in Commands.lean.
-/

namespace Sys2Proof.Machine

/-! ## Window and scan order (R137, R138) -/

namespace Window

/-- Columns of the window. -/
def width (w : Window) : Nat := w.xe - w.xs + 1

/-- Rows of the window. -/
def height (w : Window) : Nat := w.ye - w.ys + 1

/-- Slots of the window, N. -/
def count (w : Window) : Nat := w.width * w.height

/-- Column offset of step k. -/
def colOffset (w : Window) (k : Nat) : Nat := if w.mv then k / w.height else k % w.width

/-- Row offset of step k. -/
def rowOffset (w : Window) (k : Nat) : Nat := if w.mv then k % w.height else k / w.width

/-- Column visited at step k. -/
def col (w : Window) (k : Nat) : Nat := if w.mx then w.xe - w.colOffset k else w.xs + w.colOffset k

/-- Row visited at step k. -/
def row (w : Window) (k : Nat) : Nat := if w.my then w.ye - w.rowOffset k else w.ys + w.rowOffset k

end Window

/-- The slot of a row and a column (R1). -/
def slotAt (row col : Nat) : SlotId := Fin.ofNat 192 (row * 16 + col)

/-- The slot visited at step k (R138). -/
def Window.slotOf (w : Window) (k : Nat) : SlotId := slotAt (w.row k) (w.col k)

/-! ## Requests (R139) -/

/-- Reads a 16-bit value by the keys of R139. -/
def requestOf (v : Word16) : Request :=
  if v.toNat ≤ 1000 then .set v.toNat
  else if v.toNat ≤ 0xFFFD then .set 1000
  else if v.toNat = 0xFFFE then .clear
  else .leave

/-- Bit of a bit item for the step at place `j`, the most significant bit first (R145). -/
def itemBit (item : Word16) (j : Nat) : Bool := item.getLsbD (15 - j)

/-- Request of OP_EXPAND for a bit (R145). -/
def expandRequest (fore back : Word16) (keyed b : Bool) : Request :=
  if b then requestOf fore else if keyed then .leave else requestOf back

/-- Request of OP_MASK from the slot's bit S and its present state D (R147). -/
def maskRequest (code : Fin 16) (fore : Nat) (s d : Bool) : Request :=
  let p := code.val.testBit (2 * bit s + bit d)
  match d, p with
  | false, false => .leave
  | false, true => .set fore
  | true, false => .clear
  | true, true => .leave

/-- The operation takes its values from items (R141). -/
def OpKind.isInput : OpKind → Bool
  | .expand _ _ _ | .block | .mask _ _ => true
  | .fill _ | .pattern | .copy _ _ | .read _ => false

/-- The operation is an OP_READ. -/
def OpKind.isRead : OpKind → Bool
  | .read _ => true
  | .fill _ | .pattern | .copy _ _ | .expand _ _ _ | .block | .mask _ _ => false

/-- Items an operation needs (R145). -/
def OpKind.needed (k : OpKind) (n : Nat) : Nat :=
  match k with
  | .expand _ _ _ | .mask _ _ => (n + 15) / 16
  | .block => n
  | .fill _ | .pattern | .copy _ _ | .read _ => 0

namespace State

/-- The request an operation makes of the slot at step k, given the item in hand (R142–R147). -/
def requestAt (s : State) (o : Op) (item : Word16) : Request :=
  let i := s.eng.window.slotOf o.k
  match o.kind with
  | .fill v => requestOf v
  | .pattern => requestOf (s.eng.tile[Fin.ofNat 16 ((i.val / 16 % 4) * 4 + i.val % 16 % 4)])
  | .copy _ _ => s.eng.snapshot.getD o.k .leave
  | .expand f b keyed => expandRequest f b keyed (itemBit item (o.k % 16))
  | .block => requestOf item
  | .mask code f => maskRequest code f (itemBit item (o.k % 16)) (s.slot i).bms.isSome
  | .read _ => .leave

/-! ## Taking an operation (R141) -/

/-- The source requests of a copy, read at the take in row-major order (R144). -/
def snapshotOf (s : State) (row col : Nat) : List Request :=
  let w := s.eng.window
  (List.range w.count).map fun j =>
    let i := slotAt (row + j / w.width) (col + j % w.width)
    if (s.vent i).mapped then match (s.slot i).bms with | some v => .set v | none => .clear
    else .clear

/-- Takes an operation (R141 step 4). -/
def takeOp (k : OpKind) (s : State) : State :=
  let n := s.eng.window.count
  s.modEng fun e =>
    { e with
      op := some { kind := k, n := n, needed := k.needed n, feeding := k.isInput }
      snapshot := match k with | .copy r c => s.snapshotOf r c | _ => []
      feed := if k.isInput then .running 10000 else .stopped
      written := 0, skipped := 0, refused := 0, remaining := n
      outcome := .none, due := .none }

/-! ## Ends of an operation (R156) -/

/-- The operation ends with an outcome (R156). -/
def endOp (out : EngOutcome) (s : State) : State :=
  (s.modEng fun e =>
    { e with op := none, hand := none, snapshot := [], fifo := [], feed := .stopped, outcome := out, due := .none }).raiseOn .b
    .opDone

/-- An input operation in RUNNING whose FIFO is empty and that has no item in hand ends with its ending due (R150). -/
def endIfDrained (s : State) : State :=
  match s.eng.op with
  | some o => if o.kind.isInput ∧ o.feeding = false ∧ s.eng.fifo = [] ∧ s.eng.hand = none then s.endOp s.eng.due else s
  | none => s

/-- An input operation leaves FEEDING for RUNNING with an ending due (R150, R151, R154). -/
def leaveFeeding (due : EngOutcome) (s : State) : State :=
  s.modEng fun e => { e with op := e.op.map fun o => { o with feeding := false }, feed := .stopped, due := due }

/-! ## Visits (R140) -/

/-- The step is visited: the scan counter advances and remaining falls by one. -/
def stepDone (s : State) : State :=
  s.modEng fun e => { e with op := e.op.map fun o => { o with k := o.k + 1 }, remaining := e.remaining - 1 }

/-- Applies a request to a slot and counts the result: skipped, left, written or refused (R38, R140). -/
def applyRequest (i : SlotId) (q : Request) (s : State) : State :=
  if (s.vent i).mapped then
    match q with
    | .leave => s
    | .set v =>
      if s.claimAllowed .b i then (s.modEng fun e => { e with written := e.written + 1 }).writeBms i (some v)
      else s.modEng fun e => { e with refused := e.refused + 1 }
    | .clear =>
      if s.claimAllowed .b i then (s.modEng fun e => { e with written := e.written + 1 }).writeBms i none
      else s.modEng fun e => { e with refused := e.refused + 1 }
  else s.modEng fun e => { e with skipped := e.skipped + 1 }

/-- The item in hand is done: its last slot has been visited (R150). -/
def itemDone (o : Op) : Bool := decide (o.kind = .block) || decide (o.n ≤ o.k + 1) || decide ((o.k + 1) % 16 = 0)

/-- One visit of the scan (R140): of a self-completing operation, or of an input operation with an item in hand. -/
def visit (s : State) : State :=
  match s.eng.op with
  | none => s
  | some o =>
    if o.kind.isRead then s
    else if o.kind.isInput then
      match s.eng.hand with
      | none => s
      | some item =>
        let t := ((s.applyRequest (s.eng.window.slotOf o.k) (s.requestAt o item)).stepDone)
        if itemDone o then (t.modEng fun e => { e with hand := none }).endIfDrained else t
    else
      let t := ((s.applyRequest (s.eng.window.slotOf o.k) (s.requestAt o 0)).stepDone)
      if o.n ≤ o.k + 1 then t.endOp .complete else t

/-! ## Items (R149–R153) -/

/-- The operation in progress is FEEDING. -/
def feeding (s : State) : Bool := match s.eng.op with | some o => o.feeding | none => false

/-- The FIFO has room for an item (R148). -/
def fifoRoom (s : State) : Bool := decide (s.eng.fifo.length < 16)

/-- An item joins the FIFO; the last one the operation needs takes it out of FEEDING (R149, R150). -/
def acceptItem (item : Word16) (s : State) : State :=
  match s.eng.op with
  | none => s
  | some o =>
    let t := s.modEng fun e =>
      { e with fifo := e.fifo ++ [item], op := some { o with accepted := o.accepted + 1 }, feed := .running 10000 }
    if o.needed ≤ o.accepted + 1 then t.leaveFeeding .complete else t

/-- Items accepted and needed by the input operation in progress, both 0 when there is none (R149). -/
def itemCounts (s : State) : Nat × Nat :=
  match s.eng.op with
  | some o => if o.kind.isInput then (o.accepted, o.needed) else (0, 0)
  | none => (0, 0)

/-- The engine may take an item: an input operation is in progress, no item is in hand and the FIFO is not empty (R150). -/
def mayTakeItem (s : State) : Bool :=
  match s.eng.op with
  | some o => o.kind.isInput && decide (s.eng.hand = none) && decide (s.eng.fifo ≠ [])
  | none => false

/-- The engine takes the oldest item out of the FIFO as its item in hand (R150). -/
def takeItem (s : State) : State := s.modEng fun e => { e with hand := e.fifo.head?, fifo := e.fifo.tail }

/-- The item an OP_READ of a kind captures from a slot (R152). -/
def readItem (s : State) (kind : Fin 4) (i : SlotId) : Word16 :=
  if (s.vent i).mapped then
    BitVec.ofNat 16 (match kind with
      | 0 => encodeOpt (s.slot i).target
      | 1 => encodeOpt (s.slot i).position
      | 2 => encodeOpt (s.slot i).bms
      | 3 => (s.slot i).motion.code * 4096 + (s.slot i).link.code * 256 + (s.slot i).fault.code)
  else 0xFFFF

/-- An OP_READ produces the next item when the FIFO has room (R152). -/
def produce (s : State) : State :=
  match s.eng.op with
  | some { kind := .read kind, n, k, .. } =>
    if k < n ∧ s.fifoRoom then
      let i := s.eng.window.slotOf k
      (s.modEng fun e =>
        { e with
          fifo := e.fifo ++ [s.readItem kind i]
          written := if (s.vent i).mapped then e.written + 1 else e.written
          skipped := if (s.vent i).mapped then e.skipped else e.skipped + 1 }).stepDone
    else s
  | _ => s

/-- The feed timer expires (R151). -/
def feedExpired (s : State) : State := (s.leaveFeeding .truncatedTimeout).endIfDrained

/-- OP_ABORT's effect (R154). -/
def abortOp (s : State) : State :=
  match s.eng.op with
  | none => s
  | some o =>
    if o.kind.isInput then
      if o.feeding then (s.leaveFeeding .truncatedAbort).endIfDrained
      else if s.eng.due = .complete then s.modEng fun e => { e with due := .truncatedAbort }
      else s
    else s.endOp .truncatedAbort

/-- A warm restart ends the operation in progress (R155). -/
def truncateOp (s : State) : State :=
  match s.eng.op with
  | none => s
  | some _ => s.endOp .truncatedRestart

end State

end Sys2Proof.Machine
end

