-- ==== Sys2Proof/Machine/Cfgc.lean ====
section
/-!
DEFINITION. Configuration Control (chapter 9): the configuration records of R177 in both directions, entry to RUN (R172) and
the warm restart (R174).
-/

namespace Sys2Proof.Machine

/-! ## Decoding a record (R170, R177): none refuses the whole record -/

/-- A VENT record; mapped = no is not checked further and gives the hardware-reset values (R3). -/
def decodeVent : List Byte → Option VentCfg
  | [m, ln, bus, cls, zn, fh, fl, ah, al, db, rh, rl, th, tl, gh, gl, br] => do
    let mapped ← yesNoOf m
    if mapped then
      let line ← lineOf ln
      let bus ← inRange bus.toNat 1 48
      let cls ← classOf cls
      let zone ← zoneOf zn
      let facing ← facingOf (word16 fh fl)
      let freeArea ← inRange (word16 ah al).toNat 1 5000
      let deadband ← inRange db.toNat 0 50
      let rest ← inRange (word16 rh rl).toNat 0 1000
      let travelLimit ← inRange (word16 th tl).toNat 5 600
      let bcastRefuse ← yesNoOf br
      some { mapped, line, bus, cls, zone, facing, freeArea, deadband, rest, travelLimit, tag := word16 gh gl, bcastRefuse }
    else some {}
  | _ => none

/-- A PROFILE record (R10). -/
def decodeProfile : List Byte → Option ProfileEntry
  | [a, vh, vl, v] => do
    let valid ← yesNoOf v
    some { attrId := a, value := word16 vh vl, valid }
  | _ => none

/-- A ZONE record (R49). -/
def decodeZone : List Byte → Option ZoneCfg
  | [ah, al, dh, dl, w] => do
    let deadline ← inRange (word16 dh dl).toNat 10 300
    let windSelect ← yesNoOf w
    some { areq := (word16 ah al).toNat, deadline, windSelect }
  | _ => none

/-- A PLAN record (R48). -/
def decodePlan : List Byte → Option Action
  | [a] => actionOf a
  | _ => none

/-- A LINE record (R104, R116). K_fire below K_norm, 0 included, differs from the plain range check: it is written as K_norm
(R170). -/
def decodeLine : List Byte → Option LineCfg
  | [kn, kf, mp, rd, wt, tc, at', ip, pr, fl, rc] => do
    let kNorm ← inRange kn.toNat 1 8
    let kFire ← if kf.toNat < kNorm then some kNorm else inRange kf.toNat 1 16
    let movePoll ← inRange mp.toNat 1 10
    let revDwell ← inRange rd.toNat 0 50
    let wakeTime ← inRange wt.toNat 0 50
    let timeoutCode ← inRange tc.toNat 0 15
    let attempts ← inRange at'.toNat 1 4
    let idlePoll ← inRange ip.toNat 1 60
    let probe ← inRange pr.toNat 2 60
    let failLimit ← inRange fl.toNat 2 8
    some { kNorm, kFire, movePoll, revDwell, wakeTime, timeoutCode, attempts, idlePoll, probe, failLimit
           resetCode := rc.toNat }
  | _ => none

/-- The WEATHER record (R67). V_off above V_on, above 600 included, differs from the plain range check: it is written as V_on
(R170). -/
def decodeWeather : List Byte → Option WeatherCfg
  | [st, k, onh, onl, offh, offl, sh, sl, rh, ch, cl, wh, wl, lh, ll] => do
    let staleTime ← inRange st.toNat 2 30
    let k ← inRange k.toNat 0 4
    let vOn ← inRange (word16 onh onl).toNat 0 600
    let vStorm ← inRange (word16 sh sl).toNat 0 600
    let cWind ← inRange (word16 ch cl).toNat 0 1000
    let wHalf ← inRange (word16 wh wl).toNat 0 900
    let lHalf ← inRange (word16 lh ll).toNat 0 900
    some { staleTime, k, vOn, vOff := min (word16 offh offl).toNat vOn, vStorm, rainHold := rh.toNat, cWind, wHalf, lHalf }
  | _ => none

/-- A PORT record (R157, R177); bits 10–15 of the enables are stored as 0. -/
def decodePort : List Byte → Option PortCfg
  | [a, m, h, hm, eh, el, ps] => do
    let addr ← inRange a.toNat 0 0x7F
    let mask ← inRange m.toNat 0 0x7F
    let holds ← yesNoOf h
    let holdMax ← inRange hm.toNat 1 100
    let policy ← if hp : ps.toNat < 4 then some (⟨ps.toNat, hp⟩ : Fin 4) else none
    some { addr := BitVec.ofNat 7 addr, mask := BitVec.ofNat 7 mask, holds, holdMax, enables := word16 eh el &&& 0x03FF, policy }
  | _ => none

/-- A POLICY record (R177); bits 6–7 are ignored. -/
def decodePolicy : List Byte → Option PolicyCfg
  | [b] => some
    { claimSv := b.getLsbD 0, claimCw := b.getLsbD 1, claimIw := b.getLsbD 2
      clearSv := b.getLsbD 3, clearCw := b.getLsbD 4, clearIw := b.getLsbD 5 }
  | _ => none

/-- The tables with one record replaced, or none when table, index, length or a field is out of range (R169, R170). -/
def Tables.write (t : Tables) (table : Byte) (index : Word16) (bytes : List Byte) : Option Tables :=
  let n := index.toNat
  match table.toNat with
  | 0 => if h : n < 192 then (decodeVent bytes).map fun v => { t with vents := t.vents.set n v h } else none
  | 1 =>
    if h : n < 1536 then
      have h1 : n / 8 < 192 := by omega
      have h2 : n % 8 < 8 := by omega
      (decodeProfile bytes).map fun e => { t with profiles := t.profiles.set (n / 8) ((t.profiles[n / 8]).set (n % 8) e h2) h1 }
    else none
  | 2 => if h : n < 8 then (decodeZone bytes).map fun z => { t with zones := t.zones.set n z h } else none
  | 3 =>
    if h : n < 64 then
      have h1 : n / 8 < 8 := by omega
      have h2 : n % 8 < 8 := by omega
      (decodePlan bytes).map fun a => { t with plan := t.plan.set (n / 8) ((t.plan[n / 8]).set (n % 8) a h2) h1 }
    else none
  | 4 => if h : n < 4 then (decodeLine bytes).map fun l => { t with lines := t.lines.set n l h } else none
  | 5 => if n = 0 then (decodeWeather bytes).map fun w => { t with weather := w } else none
  | 6 => if h : n < 3 then (decodePort bytes).map fun p => { t with ports := t.ports.set n p h } else none
  | 7 => if h : n < 3 then (decodePolicy bytes).map fun p => { t with policies := t.policies.set n p h } else none
  | _ => none

/-! ## Encoding a record (R171, R177) -/

/-- A VENT record. -/
def encodeVent (v : VentCfg) : List Byte :=
  byte8 (bit v.mapped) ++ byte8 (LineId.code v.line) ++ byte8 v.bus ++ byte8 v.cls.code ++ byte8 v.zone.val ++
    bytes16 v.facing.code ++ bytes16 v.freeArea ++ byte8 v.deadband ++ bytes16 v.rest ++ bytes16 v.travelLimit ++
    bytes16 v.tag.toNat ++ byte8 (bit v.bcastRefuse)

/-- A PROFILE record. -/
def encodeProfile (e : ProfileEntry) : List Byte := [e.attrId] ++ bytes16 e.value.toNat ++ byte8 (bit e.valid)

/-- A ZONE record. -/
def encodeZone (z : ZoneCfg) : List Byte := bytes16 z.areq ++ bytes16 z.deadline ++ byte8 (bit z.windSelect)

/-- A LINE record. -/
def encodeLine (l : LineCfg) : List Byte :=
  byte8 l.kNorm ++ byte8 l.kFire ++ byte8 l.movePoll ++ byte8 l.revDwell ++ byte8 l.wakeTime ++ byte8 l.timeoutCode ++
    byte8 l.attempts ++ byte8 l.idlePoll ++ byte8 l.probe ++ byte8 l.failLimit ++ byte8 l.resetCode

/-- The WEATHER record. -/
def encodeWeather (w : WeatherCfg) : List Byte :=
  byte8 w.staleTime ++ byte8 w.k ++ bytes16 w.vOn ++ bytes16 w.vOff ++ bytes16 w.vStorm ++ byte8 w.rainHold ++
    bytes16 w.cWind ++ bytes16 w.wHalf ++ bytes16 w.lHalf

/-- A PORT record. -/
def encodePort (p : PortCfg) : List Byte :=
  byte8 p.addr.toNat ++ byte8 p.mask.toNat ++ byte8 (bit p.holds) ++ byte8 p.holdMax ++ bytes16 p.enables.toNat ++
    byte8 p.policy.val

/-- A POLICY record. -/
def encodePolicy (q : PolicyCfg) : List Byte :=
  byte8 (bit q.claimSv + 2 * bit q.claimCw + 4 * bit q.claimIw + 8 * bit q.clearSv + 16 * bit q.clearCw + 32 * bit q.clearIw)

/-- The bytes of a stored record, or none when table or index is out of range (R169, R171). -/
def Tables.read (t : Tables) (table : Byte) (index : Word16) : Option (List Byte) :=
  let n := index.toNat
  match table.toNat with
  | 0 => if h : n < 192 then some (encodeVent t.vents[n]) else none
  | 1 =>
    if h : n < 1536 then
      have h1 : n / 8 < 192 := by omega
      have h2 : n % 8 < 8 := by omega
      some (encodeProfile (t.profiles[n / 8])[n % 8])
    else none
  | 2 => if h : n < 8 then some (encodeZone t.zones[n]) else none
  | 3 =>
    if h : n < 64 then
      have h1 : n / 8 < 8 := by omega
      have h2 : n % 8 < 8 := by omega
      some (byte8 (t.plan[n / 8])[n % 8].code)
    else none
  | 4 => if h : n < 4 then some (encodeLine t.lines[n]) else none
  | 5 => if n = 0 then some (encodeWeather t.weather) else none
  | 6 => if h : n < 3 then some (encodePort t.ports[n]) else none
  | 7 => if h : n < 3 then some (encodePolicy t.policies[n]) else none
  | _ => none

namespace State

/-! ## Entry to RUN (R172) -/

/-- Two slots share line and bus address. -/
def sameAddress (s : State) (i j : SlotId) : Bool :=
  decide ((s.vent i).line = (s.vent j).line) && decide ((s.vent i).bus = (s.vent j).bus)

/-- The first offending slot of CFG_DONE's check (R6): the lowest mapped slot that shares line and bus address with a mapped
slot of a lower index. -/
def duplicate (s : State) : Option SlotId :=
  s.mappedSlots.find? fun i => s.mappedSlots.any fun j => decide (j < i) && s.sameAddress j i

/-- Entry to RUN (R172): WXP's classes and ceilings from its state at that moment (R14, R89), then controllers, FPLAN, HOLD
captures and composition in the order of its table. -/
def enterRun (s : State) : State :=
  let a := ({ s with mode := .run } : State).writeClasses
  let b := a.eachSlot a.mappedSlots setOffline
  let c := b.eachLine probeAll
  let d := c.startFplan
  let e := d.eachSlot (d.mappedSlots.filter fun i => decide (d.modeOf i = .hold)) captureHold
  e.eachSlot e.mappedSlots recompose

/-! ## Warm restart (R174) -/

/-- MOTION at a warm restart, one slot (R113); `dir` and `deferred` by notes/assumptions/7.md. -/
def detachSlot (i : SlotId) (s : State) : State :=
  s.modSlot i fun r =>
    { r with
      motion := .detached, fault := .none, permit := false, entryTime := none, cls := none, dir := none
      travel := .stopped, poll := .stopped, dwell := .stopped, stoppedShort := 0, deferred := false }

/-- MOTION at a warm restart, one line (R113): permits, queue, counts; limit, power state and its timers are kept. -/
def detachLine (l : LineId) (s : State) : State :=
  s.modMline l fun m => { m with holders := [], queue := [], entryCount := 0, preempting := 0 }

/-- The warm restart (R174). MOTION and the controllers come first, so that no recomposition moves a vent that is being
detached; COMP clears every entry and re-derives and recomposes every slot (R14); FPLAN then takes the link losses and
cleared faults, each zone once (R52, R59; notes/assumptions/19.md). -/
def warmRestart (s : State) : State :=
  let a := (s.eachSlot s.mappedSlots detachSlot).eachLine detachLine
  let b := a.eachLine warmLine
  let c := b.eachSlot b.mappedSlots fun i t => (t.modSlot i fun r => { r with bms := none }).refire i
  ((c.truncateOp.recomputeZones allZones).raiseAll .restart)

end State

end Sys2Proof.Machine
end

