-- ==== Sys2Proof/Machine/Ports.lean ====
section
/-!
DEFINITION. The master ports' shared operations (chapter 8): frames, the DATA frame, port holds, replies and the taking of a
command. The commands themselves are in Commands.lean.
-/

namespace Sys2Proof.Machine

namespace State

/-! ## Taking a command (R160–R162) -/

/-- Empties the input buffer and the DATA frame state of a port. -/
def clearInput (p : PortId) (s : State) : State := s.modPort p fun pt => { pt with code := none, params := [], data := {} }

/-- Installs a block's answer in the port's reply buffer: a whole reply, or a reply to prepare (R161, R162). -/
def install (p : PortId) (a : Answer) (s : State) : State :=
  match a with
  | .reply r => s.modPort p fun pt => { pt with reply := r }
  | .prepare todo tail =>
    { (s.modPort p fun pt => { pt with reply := {}, prep := some { todo := todo, tail := tail, take := s.captures } }) with
      captures := s.captures + 1 }

/-- The taking of a command on a port (R160): the checks of the port and of the mode, then the block's answer. While a reply
is being prepared no command is taken (R162: a write never discards a reply still being prepared; notes/assumptions/1.md). -/
def take (p : PortId) (ports : List PortId) (runOnly : Bool) (block : State → State × Answer) (s : State) : State :=
  if (s.port p).prep.isSome then s
  else if p ∉ ports then (s.install p (answer .badCommand)).clearInput p
  else if runOnly ∧ s.mode = .unconfigured then (s.install p (answer .notReady)).clearInput p
  else ((block s).1.install p (block s).2).clearInput p

/-- A byte of the frame is refused: it is not acknowledged and the rest of the frame is ignored (R149, R159). -/
def refuseByte (p : PortId) (s : State) : State := s.modPort p fun pt => { pt with frame := .ignoring, ack := false }

/-! ## DATA frames (R149) -/

/-- Code of the DATA command. -/
def dataCode : Byte := 0x3B

/-- A DATA byte is refused with the status its frame is answered with, unless an earlier refusal gave it. -/
def refuseData (p : PortId) (c : StatusCode) (s : State) : State :=
  (s.modPort p fun pt => { pt with data := { pt.data with refusal := some (pt.data.refusal.getD c), high := none } }).refuseByte p

/-- The state of a DATA frame at its command code: an operation is FEEDING, or the command is refused (R149, R160). -/
def dataStart (s : State) (p : PortId) : DataFrame := { fed := decide (p = .b) && s.feeding }

/-- The item of a completed pair joins the FIFO and its second byte is acknowledged; the end of count is kept for the rest of
the frame (R149; notes/assumptions/14.md). -/
def acceptData (p : PortId) (item : Word16) (s : State) : State :=
  let t := s.acceptItem item
  t.modPort p fun pt =>
    { pt with frame := .write, ack := true, data := { pt.data with high := none, full := pt.data.full || !t.feeding } }

/-- An input operation in progress has accepted all the items it needs. -/
def atEndOfCount (s : State) : Bool :=
  match s.eng.op with
  | some o => o.kind.isInput && decide (o.needed ≤ o.accepted)
  | none => false

/-- An item byte of a DATA frame (R149). -/
def dataByte (p : PortId) (b : Byte) (s : State) : State :=
  let d := (s.port p).data
  if d.fed = false then s.refuseData p .badCommand
  else
    match d.high with
    | none =>
      if d.full || s.atEndOfCount then s.refuseData p .badParam
      else s.modPort p fun pt => { pt with ack := true, data := { pt.data with high := some b } }
    | some h =>
      if s.feeding = false then s.refuseData p .badCommand
      else if s.fifoRoom then s.acceptData p (word16 h b)
      else if (s.portCfg p).holds then
        s.modPort p fun pt =>
          { pt with frame := .holding (.dataByte h b), ack := false, hold := .running (s.portCfg p).holdMax }
      else s.refuseData p .busy

/-- The reply of a DATA frame, formed at its end (R149). On PORT-B it carries the two counts whatever its status (R176). -/
def dataAnswer (p : PortId) (s : State) : Answer :=
  let d := (s.port p).data
  let status := d.refusal.getD (if d.fed then .ok else .badCommand)
  .reply
    { status := status
      payload := if p = .b then byte8 s.itemCounts.1 ++ byte8 s.itemCounts.2 else [] }

/-- The end of a DATA frame: its reply is formed (R149, R159). -/
def endData (p : PortId) (s : State) : State :=
  if (s.port p).prep.isSome then s else s.install p (s.dataAnswer p)

/-! ## Frame events (R158) -/

/-- The port awaits an address byte, with the address and mask its record holds at this start condition (R157, R158). -/
def awaitAddress (p : PortId) (s : State) : State :=
  s.modPort p fun pt =>
    { pt with frame := .idle, awaiting := true, frameAddr := (s.portCfg p).addr, frameMask := (s.portCfg p).mask }

/-- The address byte matches (R158). -/
def addressMatches (s : State) (p : PortId) (b : Byte) : Bool :=
  decide ((b.extractLsb' 1 7 ^^^ (s.port p).frameAddr) &&& (s.port p).frameMask = 0)

/-- A frame begins: WRITE with an empty input buffer, or READ from the first byte of the reply (R158, R161). `pend` says that
this read frame is answered PENDING (R162). -/
def beginFrame (p : PortId) (isRead pend : Bool) (s : State) : State :=
  (s.clearInput p).modPort p fun pt =>
    { pt with
      frame := if isRead then .read else .write
      ack := true, hold := .stopped, readIndex := 0, readPending := pend }

/-- An address byte (R158), and a frame begun while the reply is being prepared (R162). -/
def addressIn (p : PortId) (b : Byte) (s : State) : State :=
  let pt := s.port p
  let isRead := b.getLsbD 0
  if pt.frame ≠ .idle ∨ pt.awaiting = false then s
  else
    let t := s.modPort p fun q => { q with awaiting := false }
    if s.addressMatches p b = false then t.refuseByte p
    else if pt.prep.isNone then t.beginFrame p isRead false
    else if (s.portCfg p).holds then
      t.modPort p fun q =>
        { q with
          frame := .holding (if isRead then .readAddress else .writeAddress)
          ack := false, hold := .running (s.portCfg p).holdMax }
    else if isRead then t.beginFrame p true true
    else t.refuseByte p

/-- A data byte of a write frame (R158, R159). -/
def writeByteIn (p : PortId) (b : Byte) (s : State) : State :=
  let pt := s.port p
  match pt.frame with
  | .write =>
    match pt.code with
    | none =>
      s.modPort p fun q =>
        { q with code := some b, ack := true, data := if b = dataCode then s.dataStart p else {} }
    | some c =>
      if c = dataCode then s.dataByte p b
      else if pt.params.length < 128 then s.modPort p fun q => { q with params := q.params ++ [b], ack := true }
      else (s.refuseByte p).modPort p Port.error
  | .idle | .ignoring => s.modPort p fun q => { q with ack := false }
  | .read | .holding _ => s

/-- The bytes a read frame sends, before the 0x00 that follows them (R161, R162). -/
def readStream (pt : Port) : List Byte :=
  if pt.readPending then byte8 StatusCode.pending.code ++ byte8 0
  else byte8 pt.reply.status.code ++ byte8 pt.reply.payload.length ++ pt.reply.payload

/-- A byte is read out of the part (R158, R161): in a read frame the next byte of the reply, or 0x00 past its end; in IDLE
and IGNORING the part drives nothing. -/
def readByteOut (p : PortId) (s : State) : State :=
  let pt := s.port p
  match pt.frame with
  | .read => s.modPort p fun q => { q with sent := some ((readStream pt).getD pt.readIndex 0), readIndex := q.readIndex + 1 }
  | .idle | .ignoring => s.modPort p fun q => { q with sent := none }
  | .write | .holding _ => s

/-! ## Holds (R162, R163) -/

/-- The preparation of a reply ends (R162): the records still to capture are captured, the reply is complete, and a hold
waiting on it ends. -/
def finishReply (p : PortId) (s : State) : State :=
  match (s.port p).prep with
  | none => s
  | some q =>
    let done := q.capture s q.todo.length
    let t := s.modPort p fun pt => { pt with reply := { payload := done.bytes ++ done.tail }, prep := none }
    match (s.port p).frame with
    | .holding .readAddress => t.beginFrame p true false
    | .holding .writeAddress => t.beginFrame p false false
    | .holding (.dataByte _ _) | .idle | .write | .read | .ignoring => t

/-- The engine has taken an item out of the FIFO: a hold of PORT-B waiting for room ends (R149, R150, R163). -/
def roomMade (s : State) : State :=
  match (s.port .b).frame with
  | .holding (.dataByte h l) =>
    let t := s.modPort .b fun pt => { pt with frame := .write, hold := .stopped }
    if s.feeding then t.acceptData .b (word16 h l) else t.refuseData .b .badCommand
  | .holding .readAddress | .holding .writeAddress | .idle | .write | .read | .ignoring => s

/-- A port hold reaches its limit with the cause still present (R162, R163). -/
def holdExpired (p : PortId) (s : State) : State :=
  match (s.port p).frame with
  | .holding cause =>
    let t := s.modPort p fun pt => { pt.error with hold := .stopped }
    match cause with
    | .readAddress => t.beginFrame p true true
    | .writeAddress => t.refuseByte p
    | .dataByte _ _ => t.refuseData p (if s.feeding then .busy else .badCommand)
  | .idle | .write | .read | .ignoring => s

end State

end Sys2Proof.Machine
end

