-- ==== Sys2Proof/Machine/Commands.lean ====
section
/-!
DEFINITION. The commands of the ports (the command table of R160), each as its block takes it, and the taking of the command
a write frame carries. A command's parameters are an Option: `none` stands for a missing or surplus parameter, which counts as
a parameter out of range at the point where the block reports BAD_PARAM (R160, R176; notes/assumptions/16.md).
-/

namespace Sys2Proof.Machine.State

/-! ## Answers shared by several commands -/

/-- Runs a block's work on parameters in range, and answers BAD_PARAM otherwise. -/
def withParam {α : Type} (x : Option α) (s : State) (work : α → State × Answer) : State × Answer :=
  match x with
  | some a => work a
  | none => (s, answer .badParam)

/-- The state unchanged, with an answer. -/
def only (s : State) (a : Answer) : State × Answer := (s, a)

/-- A changed state, answered OK. -/
def done (s : State) : State × Answer := (s, answer .ok)

/-- Status of a command over selected slots from how many the policy allowed and refused (R36, R103). -/
def selectionStatus (allowed refused : Nat) : StatusCode :=
  if refused = 0 then .ok else if allowed = 0 then .denied else .part

/-- The reply with two counts of a command over selected slots, whatever its status (R34–R36, R103): DENIED says that the
policy refused every slot, not that the command was refused (notes/assumptions/22.md). -/
def countsAnswer (st : StatusCode) (first second : Nat) : Answer :=
  .reply { status := st, payload := byte8 first ++ byte8 second }

/-! ## Status, notices and queries -/

/-- READ_STATUS (R164). -/
def readStatusBlock (p : PortId) (x : Option Unit) (s : State) : State × Answer :=
  withParam x s fun _ => s.only (answerOk (s.statusRecord p))

/-- ACK_NOTICE (R167). -/
def ackNoticeBlock (p : PortId) (x : Option Word16) (s : State) : State × Answer :=
  withParam x s fun mask =>
    let before' := (s.port p).flags
    let after := before' &&& ~~~mask
    (s.modPort p fun pt => { pt with flags := after }, answerOk (bytes16 before'.toNat ++ bytes16 after.toNat))

/-- QUERY_VENTS (R18). -/
def queryVentsBlock (x : Option (Word16 × Word16 × Byte)) (s : State) : State × Answer :=
  withParam x s fun (sel, mask, start) =>
    let chosen := (s.select sel mask).filter fun i => decide (start.toNat ≤ i.val)
    let next := match chosen[15]? with | some i => i.val | none => 0xFF
    s.only (.prepare ((chosen.take 15).map Capture.vent) (byte8 next))

/-- QUERY_ZONES (R66). -/
def queryZonesBlock (x : Option Unit) (s : State) : State × Answer :=
  withParam x s fun _ => s.only (.prepare (.alarmList :: allZones.map Capture.zone) [])

/-- QUERY_WEATHER (R88). -/
def queryWeatherBlock (x : Option Unit) (s : State) : State × Answer :=
  withParam x s fun _ => s.only (.prepare [.weather] [])

/-- QUERY_LINES (R165). -/
def queryLinesBlock (x : Option Unit) (s : State) : State × Answer :=
  withParam x s fun _ => s.only (.prepare (allLines.map Capture.line) [])

/-! ## FPLAN -/

/-- ALARM (R43). -/
def alarmBlock (x : Option Byte) (s : State) : State × Answer :=
  withParam (x.bind zoneOf) s fun z => if z ∈ s.alarms then s.done else (s.changeList (s.alarms ++ [z])).done

/-- CLEAR (R44). -/
def clearBlock (x : Option Byte) (s : State) : State × Answer :=
  withParam (x.bind zoneOf) s fun z => if z ∈ s.alarms then (s.changeList (s.alarms.erase z)).done else s.done

/-- CLEAR_ALL (R45). -/
def clearAllBlock (x : Option Unit) (s : State) : State × Answer :=
  withParam x s fun _ => if s.alarms = [] then s.done else (s.changeList []).done

/-! ## COMP -/

/-- One zone of an OVERRIDE (R24): captures, the new mode, fault clears, and recomposition of every member. A member in
FAULT has its new target recorded before it is cleared, so that its evaluation reads the target as it stands after the event
(R90, R102; notes/assumptions/23.md). -/
def overrideZone (m : OverrideMode) (z : ZoneId) (s : State) : State :=
  let old := (s.zone z).override
  if old = m then s
  else
    let a := s.modZone z fun zn => { zn with override := m }
    if s.mode = .run then
      let b := if old = .hold then a.eachSlot (a.zoneMembers z) (fun i t => t.modSlot i fun r => { r with hold := none }) else a
      let c := if m = .hold then b.eachSlot (b.zoneMembers z) captureHold else b
      let faulted := (c.zoneMembers z).filter fun i => decide ((c.slot i).motion = .fault)
      let d := (c.eachSlot faulted recompose).eachSlot faulted clearFault
      d.eachSlot (d.zoneMembers z) recompose
    else a

/-- The zones an OVERRIDE mask names, in ascending order. -/
def maskedZones (mask : Byte) : List ZoneId := allZones.filter fun z => mask.getLsbD z.val

/-- OVERRIDE (R24). -/
def overrideBlock (x : Option (Byte × Byte)) (s : State) : State × Answer :=
  withParam (x.bind fun q => (overrideOf q.2).map (q.1, ·)) s fun (mask, m) =>
    let zs := maskedZones mask
    let changed := zs.any fun z => decide ((s.zone z).override ≠ m)
    ((s.eachZone zs (overrideZone m)).raiseIf changed .override).done

/-- The slots of a selection that PORT-p's policy allows to be written (R33). -/
def claimable (s : State) (p : PortId) (l : List SlotId) : List SlotId := l.filter (s.claimAllowed p)

/-- One value written to every allowed slot of a selection, in slot order (R34, R35), and the reply of R36. -/
def writeSelection (p : PortId) (sel mask : Word16) (v : Option Nat) (s : State) : State × Answer :=
  let l := s.select sel mask
  let ok := s.claimable p l
  let refused := l.length - ok.length
  (s.eachSlot ok fun i t => t.writeBms i v, countsAnswer (selectionStatus ok.length refused) ok.length refused)

/-- CLAIM (R34). -/
def claimBlock (p : PortId) (x : Option (Word16 × Word16 × Word16)) (s : State) : State × Answer :=
  withParam x s fun (sel, mask, v) => s.writeSelection p sel mask (some (clamp v.toNat))

/-- RELEASE (R35). -/
def releaseBlock (p : PortId) (x : Option (Word16 × Word16)) (s : State) : State × Answer :=
  withParam x s fun (sel, mask) => s.writeSelection p sel mask none

/-! ## MOTION -/

/-- FAULT_CLEAR (R103). -/
def faultClearBlock (p : PortId) (x : Option (Word16 × Word16)) (s : State) : State × Answer :=
  withParam x s fun (sel, mask) =>
    let l := s.select sel mask
    let ok := l.filter (s.clearAllowed p)
    let faulted := ok.filter fun i => decide ((s.slot i).motion = .fault)
    let refused := l.length - ok.length
    (s.eachSlot faulted clearFault, countsAnswer (selectionStatus ok.length refused) faulted.length refused)

/-- LINE_STANDBY (R110). -/
def lineStandbyBlock (x : Option Byte) (s : State) : State × Answer :=
  withParam (x.bind lineOf) s fun l =>
    let m := s.mline l
    let idle := m.holders = [] ∧ (m.queue.all fun i => decide ((s.slot i).cls = some 2)) = true
    match m.power with
    | .standby => s.done
    | .waking => s.only (answer .busy)
    | .active =>
      if idle then
        ((s.modMline l fun m => { m with power := .standby, standbyDwell := .running 2000 }).raiseAll .line).done
      else s.only (answer .busy)

/-- LINE_WAKE (R112). -/
def lineWakeBlock (x : Option Byte) (s : State) : State × Answer :=
  withParam (x.bind lineOf) s fun l =>
    match (s.mline l).power with
    | .active | .waking => s.done
    | .standby => if (s.mline l).standbyDwell = .stopped then ((s.startWaking l).settle l).done else s.only (answer .busy)

/-! ## WENG -/

/-- WINDOW_SET (R137): XS, XE, YS, YE and the flags byte. -/
def windowSetBlock (x : Option (Byte × Byte × Byte × Byte × Byte)) (s : State) : State × Answer :=
  if s.eng.op.isSome then s.only (answer .busy)
  else
    withParam x s fun (xs, xe, ys, ye, fl) =>
      if 15 < xe.toNat ∨ 11 < ye.toNat ∨ xe.toNat < xs.toNat ∨ ye.toNat < ys.toNat then s.only (answer .badParam)
      else
        (s.modEng fun e =>
          { e with
            window :=
              { xs := xs.toNat, xe := xe.toNat, ys := ys.toNat, ye := ye.toNat
                mv := fl.getLsbD 0, mx := fl.getLsbD 1, my := fl.getLsbD 2 } }).done

/-- PATTERN_LOAD (R143). -/
def patternLoadBlock (x : Option (List Word16)) (s : State) : State × Answer :=
  if s.eng.op.isSome then s.only (answer .busy)
  else
    withParam x s fun vs =>
      if h : vs.length = 16 then (s.modEng fun e => { e with tile := ⟨vs.toArray, by simpa using h⟩ }).done
      else s.only (answer .badParam)

/-- Taking an operation: BUSY unless the engine is IDLE, BAD_PARAM when a parameter is out of range, else taken (R141). -/
def operationBlock (k : Option OpKind) (s : State) : State × Answer :=
  if s.eng.op.isSome then s.only (answer .busy) else withParam k s fun kind => (s.takeOp kind).done

/-- OP_FILL's parameter (R142): 0xFFFF is out of range. -/
def fillKind (v : Word16) : Option OpKind := if v = 0xFFFF then none else some (.fill v)

/-- OP_COPY's parameters (R144): the source rectangle must fit inside the grid. -/
def copyKind (w : Window) (row col : Byte) : Option OpKind :=
  if 11 < row.toNat + w.height - 1 ∨ 15 < col.toNat + w.width - 1 then none else some (.copy row.toNat col.toNat)

/-- OP_EXPAND's parameters (R145): a keyed byte is 0 or 1 (R176). -/
def expandKind (f b : Word16) (keyed : Byte) : Option OpKind := (yesNoOf keyed).map (.expand f b)

/-- OP_MASK's parameters (R147): code 0–15; F is no key and is clamped to 1000. -/
def maskKind (code : Byte) (f : Word16) : Option OpKind :=
  if h : code.toNat < 16 then
    if f = 0xFFFE ∨ f = 0xFFFF then none else some (.mask ⟨code.toNat, h⟩ (clamp f.toNat))
  else none

/-- OP_READ's parameter (R152): kind 0–3. -/
def readKind (kind : Byte) : Option OpKind :=
  if h : kind.toNat < 4 then some (.read ⟨kind.toNat, h⟩) else none

/-- OP_ABORT (R154). -/
def opAbortBlock (x : Option Unit) (s : State) : State × Answer := withParam x s fun _ => s.abortOp.done

/-- DRAIN (R153): refused unless an OP_READ is in progress; otherwise up to 16 oldest items leave the FIFO, and the READ ends
when the last of its N items has been drained. -/
def drainBlock (x : Option Unit) (s : State) : State × Answer :=
  match s.eng.op with
  | some o =>
    if o.kind.isRead then
      withParam x s fun _ =>
        let out := s.eng.fifo.take 16
        let t := s.modEng fun e => { e with fifo := e.fifo.drop 16 }
        let u := if o.n ≤ o.k ∧ out ≠ [] ∧ t.eng.fifo = [] then t.endOp .complete else t
        (u, answerOk (byte8 out.length ++ out.flatMap fun w => bytes16 w.toNat))
    else s.only (answer .badCommand)
  | none => s.only (answer .badCommand)

/-! ## CFGC -/

/-- WARM_RESTART (R174). -/
def warmRestartBlock (x : Option Unit) (s : State) : State × Answer := withParam x s fun _ => s.warmRestart.done

/-- CFG_WRITE (R170). -/
def cfgWriteBlock (x : Option (Byte × Word16 × List Byte)) (s : State) : State × Answer :=
  if s.mode = .run then s.only (answer .locked)
  else
    withParam (x.bind fun q => s.tables.write q.1 q.2.1 q.2.2) s fun t => ({ s with tables := t } : State).done

/-- CFG_READ (R171). -/
def cfgReadBlock (x : Option (Byte × Word16)) (s : State) : State × Answer :=
  withParam (x.bind fun q => s.tables.read q.1 q.2) s fun bytes => s.only (answerOk bytes)

/-- CFG_DONE (R172). -/
def cfgDoneBlock (x : Option Unit) (s : State) : State × Answer :=
  if s.mode = .run then s.only (answer .locked)
  else
    withParam x s fun _ =>
      match s.duplicate with
      | some i => s.only (.reply { status := .badConfig, payload := byte8 i.val })
      | none => s.enterRun.done

/-! ## Parameters of a frame (R176) -/

/-- No parameter. -/
def p0 : List Byte → Option Unit
  | [] => some ()
  | _ => none

/-- One byte. -/
def p1 : List Byte → Option Byte
  | [a] => some a
  | _ => none

/-- Two bytes. -/
def p2 : List Byte → Option (Byte × Byte)
  | [a, b] => some (a, b)
  | _ => none

/-- One 16-bit value. -/
def pw : List Byte → Option Word16
  | [a, b] => some (word16 a b)
  | _ => none

/-- Two 16-bit values. -/
def pww : List Byte → Option (Word16 × Word16)
  | [a, b, c, d] => some (word16 a b, word16 c d)
  | _ => none

/-- The taking of each command on a port, with the ports and modes the command table allows it (R160). -/
def takeByCode (p : PortId) (code : Byte) (ps : List Byte) (s : State) : State :=
  match code.toNat with
  | 0x01 => s.take p allPorts false (readStatusBlock p (p0 ps))
  | 0x02 => s.take p allPorts false (ackNoticeBlock p (pw ps))
  | 0x03 => s.take p allPorts false (queryVentsBlock
      (match ps with | [a, b, c, d, e] => some (word16 a b, word16 c d, e) | _ => none))
  | 0x04 => s.take p allPorts false (queryZonesBlock (p0 ps))
  | 0x05 => s.take p allPorts false (queryWeatherBlock (p0 ps))
  | 0x06 => s.take p allPorts false (queryLinesBlock (p0 ps))
  | 0x10 => s.take p [.f] false (alarmBlock (p1 ps))
  | 0x11 => s.take p [.f] false (clearBlock (p1 ps))
  | 0x12 => s.take p [.f] false (clearAllBlock (p0 ps))
  | 0x20 => s.take p [.o] false (overrideBlock (p2 ps))
  | 0x21 => s.take p [.o, .b] true (faultClearBlock p (pww ps))
  | 0x30 => s.take p [.b] true (claimBlock p
      (match ps with | [a, b, c, d, e, f] => some (word16 a b, word16 c d, word16 e f) | _ => none))
  | 0x31 => s.take p [.b] true (releaseBlock p (pww ps))
  | 0x32 => s.take p [.b] false (windowSetBlock (match ps with | [a, b, c, d, e] => some (a, b, c, d, e) | _ => none))
  | 0x33 => s.take p [.b] true (operationBlock ((pw ps).bind fillKind))
  | 0x34 => s.take p [.b] true (operationBlock ((p0 ps).map fun _ => .pattern))
  | 0x35 => s.take p [.b] true (operationBlock ((p2 ps).bind fun q => copyKind s.eng.window q.1 q.2))
  | 0x36 => s.take p [.b] true (operationBlock
      (match ps with | [a, b, c, d, e] => expandKind (word16 a b) (word16 c d) e | _ => none))
  | 0x37 => s.take p [.b] true (operationBlock ((p0 ps).map fun _ => .block))
  | 0x38 => s.take p [.b] true (operationBlock (match ps with | [a, b, c] => maskKind a (word16 b c) | _ => none))
  | 0x39 => s.take p [.b] true (operationBlock ((p1 ps).bind readKind))
  | 0x3A => s.take p [.b] true (opAbortBlock (p0 ps))
  | 0x3C => s.take p [.b] true (drainBlock (p0 ps))
  | 0x3D => s.take p [.b] false (patternLoadBlock (wordsOf ps))
  | 0x40 => s.take p [.b] true (lineStandbyBlock (p1 ps))
  | 0x41 => s.take p [.b] true (lineWakeBlock (p1 ps))
  | 0x42 => s.take p [.b] true (warmRestartBlock (p0 ps))
  | 0x50 => s.take p [.b] false (cfgWriteBlock (match ps with | t :: a :: b :: bytes => some (t, word16 a b, bytes) | _ => none))
  | 0x51 => s.take p [.b] false (cfgReadBlock (match ps with | [t, a, b] => some (t, word16 a b) | _ => none))
  | 0x52 => s.take p [.b] false (cfgDoneBlock (p0 ps))
  | _ => s.take p [] false (fun t => t.done)

/-- The end of a frame (R158–R160): a write frame's command is taken, a DATA frame's reply is formed even if bytes were
refused, and the input buffer is emptied. -/
def endFrame (p : PortId) (s : State) : State :=
  let pt := s.port p
  match pt.frame, pt.code with
  | .write, some c => (if c = dataCode then s.endData p else s.takeByCode p c pt.params).clearInput p
  | .ignoring, some c => (if c = dataCode then s.endData p else s).clearInput p
  | _, _ => s.clearInput p

end Sys2Proof.Machine.State
end

