-- ==== Sys2Proof/Machine/BlockEvents.lean ====
section
/-!
DEFINITION. The meanings of the events inside the part and on its other links: the Window Engine's own work (chapter 7), the
weather link (chapter 4), zone and motion timers (chapters 3 and 5), line power (chapter 5) and the drive lines (chapter 6).
An expiry is taken when its timer is RUNNING; the expiry of a stopped timer does not occur (notes/assumptions/3.md, 4.md).
-/

namespace Sys2Proof.Machine

namespace State

/-- The event of a timer: its effect when the timer is RUNNING, nothing otherwise. -/
def onExpiry (t : Timer) (f : State → State) (s : State) : State := if t.isRunning then f s else s

/-- ITEM_TAKE's effect (R150): the item in hand, and the end of a port hold on a full FIFO. -/
def itemTakeEvent (s : State) : State := if s.mayTakeItem then s.takeItem.roomMade else s

/-- DEADLINE_EXPIRY's effect (R60). -/
def deadlineExpires (z : ZoneId) (s : State) : State :=
  match (s.zone z).timer with
  | .running _ => (s.modZone z fun zn => { zn with timer := .expired }).evalStatus z
  | .stopped | .expired => s

/-- POLL_TIMER_EXPIRY's effect (R97): a POLL-moving is placed and the timer restarts. -/
def pollExpires (i : SlotId) (s : State) : State :=
  (s.place (s.vent i).line (.pollMoving i)).modSlot i fun r =>
    { r with poll := .running ((s.lineCfg (s.vent i).line).movePoll * 100) }

/-- PROBE_TIMER_EXPIRY's effect (R126). -/
def probeExpires (i : SlotId) (s : State) : State := (s.place (s.vent i).line (.probe i)).startProbeTimer i

/-- IDLE_POLL_TIMER_EXPIRY's effect (R128): no POLL-idle for a slot that is MOVING. -/
def idlePollExpires (i : SlotId) (s : State) : State :=
  let t := s.startIdleTimer i
  if (s.slot i).motion = .moving then t else t.place (s.vent i).line (.pollIdle i)

/-- STANDBY_DWELL_EXPIRY's effect (R112). -/
def standbyDwellExpires (l : LineId) (s : State) : State := s.modMline l fun m => { m with standbyDwell := .stopped }

/-- WAKE_TIMER_EXPIRY's effect (R111, R109): the line becomes ACTIVE, LINE is raised and grants are tested. -/
def wakeExpires (l : LineId) (s : State) : State :=
  ((s.modMline l fun m => { m with power := .active, wake := .stopped }).raiseAll .line).settle l

/-- The five bytes of a reply, received one after another (R120). -/
def replyBytes (l : LineId) (bytes : List Byte) (s : State) : State := bytes.foldl (fun t b => t.receiveByte l b) s

end State

/-! ## Window Engine -/

/-- ITEM_TAKE (R150). -/
def execItemTake (s : State) : Host.Outcome State Fault Refusal := event State.itemTakeEvent s

/-- SCAN_VISIT (R140). -/
def execScanVisit (s : State) : Host.Outcome State Fault Refusal := event State.visit s

/-- READ_ITEM_PRODUCE (R152). -/
def execReadItemProduce (s : State) : Host.Outcome State Fault Refusal := event State.produce s

/-- FEED_TIMER_EXPIRY (R151). -/
def execFeedTimerExpiry (s : State) : Host.Outcome State Fault Refusal :=
  event (State.onExpiry s.eng.feed State.feedExpired) s

/-! ## Line power -/

/-- STANDBY_DWELL_EXPIRY (R112). -/
def execStandbyDwellExpiry (l : LineId) (s : State) : Host.Outcome State Fault Refusal :=
  event (State.onExpiry (s.mline l).standbyDwell (State.standbyDwellExpires l)) s

/-- WAKE_TIMER_EXPIRY (R111). -/
def execWakeTimerExpiry (l : LineId) (s : State) : Host.Outcome State Fault Refusal :=
  event (State.onExpiry (s.mline l).wake (State.wakeExpires l)) s

/-! ## Weather link -/

/-- WEATHER_BYTE (R68). -/
def execWeatherByte (byte : Byte) (s : State) : Host.Outcome State Fault Refusal := event (State.weatherByteIn byte) s

/-- FRAMING_ERROR (R69): counted in ASSEMBLING alone. -/
def execFramingError (s : State) : Host.Outcome State Fault Refusal := event State.dropRecord s

/-- GAP_EXPIRY (R69). -/
def execGapExpiry (s : State) : Host.Outcome State Fault Refusal := event (State.onExpiry s.wx.gap State.dropRecord) s

/-- STALE_TIMER_EXPIRY (R75). -/
def execStaleTimerExpiry (s : State) : Host.Outcome State Fault Refusal := event (State.onExpiry s.wx.stale State.goStale) s

/-! ## Zone and slot timers -/

/-- DEADLINE_EXPIRY (R60). -/
def execDeadlineExpiry (z : ZoneId) (s : State) : Host.Outcome State Fault Refusal := event (State.deadlineExpires z) s

/-- POLL_TIMER_EXPIRY (R97). -/
def execPollTimerExpiry (i : SlotId) (s : State) : Host.Outcome State Fault Refusal :=
  event (State.onExpiry (s.slot i).poll (State.pollExpires i)) s

/-- TRAVEL_TIMER_EXPIRY (R99): FAULT with TRAVEL_TIMEOUT, and a STOP whatever the last moving flag showed. -/
def execTravelTimerExpiry (i : SlotId) (s : State) : Host.Outcome State Fault Refusal :=
  event (State.onExpiry (s.slot i).travel (State.enterFault i .travelTimeout true)) s

/-- DWELL_TIMER_EXPIRY (R101). -/
def execDwellTimerExpiry (i : SlotId) (s : State) : Host.Outcome State Fault Refusal :=
  event (State.onExpiry (s.slot i).dwell (State.dwellEnds i)) s

/-! ## Drive lines -/

/-- END_OF_REQUEST (R119). -/
def execEndOfRequest (l : LineId) (s : State) : Host.Outcome State Fault Refusal := event (State.requestSent l) s

/-- DRIVE_LINE_REPLY (R120): its five bytes are received in order, without a gap. -/
def execDriveLineReply (l : LineId) (addr flags posHi posLo check : Byte) (s : State) : Host.Outcome State Fault Refusal :=
  event (State.replyBytes l [addr, flags, posHi, posLo, check]) s

/-- REPLY_GAP_EXPIRY (R120). -/
def execReplyGapExpiry (l : LineId) (s : State) : Host.Outcome State Fault Refusal := event (State.replyGap l) s

/-- REPLY_TIMER_EXPIRY (R122). -/
def execReplyTimerExpiry (l : LineId) (s : State) : Host.Outcome State Fault Refusal := event (State.replyTimeoutAt l) s

/-- LINE_RESET_TIMER_EXPIRY (R132). -/
def execLineResetTimerExpiry (l : LineId) (s : State) : Host.Outcome State Fault Refusal :=
  event (State.onExpiry (s.dline l).reset (State.leaveLineReset l)) s

/-- PROBE_TIMER_EXPIRY (R126). -/
def execProbeTimerExpiry (i : SlotId) (s : State) : Host.Outcome State Fault Refusal :=
  event (State.onExpiry (s.slot i).probe (State.probeExpires i)) s

/-- IDLE_POLL_TIMER_EXPIRY (R128). -/
def execIdlePollTimerExpiry (i : SlotId) (s : State) : Host.Outcome State Fault Refusal :=
  event (State.onExpiry (s.slot i).idlePoll (State.idlePollExpires i)) s

/-- LINE_BYTE_RECEIVED (R120). -/
def execLineByteReceived (l : LineId) (byte : Byte) (s : State) : Host.Outcome State Fault Refusal :=
  event (State.receiveByte l byte) s

end Sys2Proof.Machine
end

