-- ==== Sys2Proof/Machine/PortEvents.lean ====
section
/-!
DEFINITION. The meanings of the frame events of a port (chapter 8): PORT_START, ADDRESS_BYTE, WRITE_DATA_BYTE,
READ_DATA_BYTE, PORT_RESTART, PORT_STOP, HOLD_TIMER_EXPIRY and REPLY_READY.
-/

namespace Sys2Proof.Machine

namespace State

/-- The port's clock is held low, so no frame event can come (R163; notes/assumptions/4.md). -/
def holding (s : State) (p : PortId) : Bool := match (s.port p).frame with | .holding _ => true | _ => false

/-- A restart ends the current frame and awaits an address byte (R158). -/
def restart (p : PortId) (s : State) : State := if s.holding p then s else (s.endFrame p).awaitAddress p

/-- A stop ends the current frame and returns the port to IDLE (R158). -/
def stop (p : PortId) (s : State) : State :=
  if s.holding p then s else (s.endFrame p).modPort p fun pt => { pt with frame := .idle, awaiting := false }

end State

/-- PORT_START (R158): in IDLE and IGNORING the port awaits the address byte; a start inside a frame is a restart. -/
def execPortStart (p : PortId) (s : State) : Host.Outcome State Fault Refusal := event (State.restart p) s

/-- ADDRESS_BYTE (R158, R162). -/
def execAddressByte (p : PortId) (byte : Byte) (s : State) : Host.Outcome State Fault Refusal :=
  event (State.addressIn p byte) s

/-- WRITE_DATA_BYTE (R149, R159). -/
def execWriteDataByte (p : PortId) (byte : Byte) (s : State) : Host.Outcome State Fault Refusal :=
  event (State.writeByteIn p byte) s

/-- READ_DATA_BYTE (R161). -/
def execReadDataByte (p : PortId) (s : State) : Host.Outcome State Fault Refusal := event (State.readByteOut p) s

/-- PORT_RESTART (R158, R160). -/
def execPortRestart (p : PortId) (s : State) : Host.Outcome State Fault Refusal := event (State.restart p) s

/-- PORT_STOP (R158, R160). -/
def execPortStop (p : PortId) (s : State) : Host.Outcome State Fault Refusal := event (State.stop p) s

/-- HOLD_TIMER_EXPIRY (R163). -/
def execHoldTimerExpiry (p : PortId) (s : State) : Host.Outcome State Fault Refusal := event (State.holdExpired p) s

/-- REPLY_READY (R162). -/
def execReplyReady (p : PortId) (s : State) : Host.Outcome State Fault Refusal := event (State.finishReply p) s

end Sys2Proof.Machine
end

