-- ==== Sys2Proof/Machine/PortCommands.lean ====
section
/-!
DEFINITION. The meanings of the port commands: each is the taking of that command (R160) with the ports and modes of the
command table; PORT_STOP and PORT_RESTART take the same blocks from the input buffer (State.takeByCode).
-/

namespace Sys2Proof.Machine

/-- READ_STATUS (R164). -/
def execReadStatus (p : PortId) (s : State) : Host.Outcome State Fault Refusal :=
  event (State.take p allPorts false (State.readStatusBlock p (some ()))) s

/-- ACK_NOTICE (R167). -/
def execAckNotice (p : PortId) (mask : Word16) (s : State) : Host.Outcome State Fault Refusal :=
  event (State.take p allPorts false (State.ackNoticeBlock p (some mask))) s

/-- QUERY_VENTS (R18). -/
def execQueryVents (p : PortId) (sel mask : Word16) (start : Byte) (s : State) : Host.Outcome State Fault Refusal :=
  event (State.take p allPorts false (State.queryVentsBlock (some (sel, mask, start)))) s

/-- QUERY_ZONES (R66). -/
def execQueryZones (p : PortId) (s : State) : Host.Outcome State Fault Refusal :=
  event (State.take p allPorts false (State.queryZonesBlock (some ()))) s

/-- QUERY_WEATHER (R88). -/
def execQueryWeather (p : PortId) (s : State) : Host.Outcome State Fault Refusal :=
  event (State.take p allPorts false (State.queryWeatherBlock (some ()))) s

/-- QUERY_LINES (R165). -/
def execQueryLines (p : PortId) (s : State) : Host.Outcome State Fault Refusal :=
  event (State.take p allPorts false (State.queryLinesBlock (some ()))) s

/-- ALARM (R43). -/
def execAlarm (p : PortId) (zone : Byte) (s : State) : Host.Outcome State Fault Refusal :=
  event (State.take p [.f] false (State.alarmBlock (some zone))) s

/-- CLEAR (R44). -/
def execClear (p : PortId) (zone : Byte) (s : State) : Host.Outcome State Fault Refusal :=
  event (State.take p [.f] false (State.clearBlock (some zone))) s

/-- CLEAR_ALL (R45). -/
def execClearAll (p : PortId) (s : State) : Host.Outcome State Fault Refusal :=
  event (State.take p [.f] false (State.clearAllBlock (some ()))) s

/-- OVERRIDE (R24). -/
def execOverride (p : PortId) (zoneMask mode : Byte) (s : State) : Host.Outcome State Fault Refusal :=
  event (State.take p [.o] false (State.overrideBlock (some (zoneMask, mode)))) s

/-- FAULT_CLEAR (R103). -/
def execFaultClear (p : PortId) (sel mask : Word16) (s : State) : Host.Outcome State Fault Refusal :=
  event (State.take p [.o, .b] true (State.faultClearBlock p (some (sel, mask)))) s

/-- CLAIM (R34). -/
def execClaim (p : PortId) (sel mask value : Word16) (s : State) : Host.Outcome State Fault Refusal :=
  event (State.take p [.b] true (State.claimBlock p (some (sel, mask, value)))) s

/-- RELEASE (R35). -/
def execRelease (p : PortId) (sel mask : Word16) (s : State) : Host.Outcome State Fault Refusal :=
  event (State.take p [.b] true (State.releaseBlock p (some (sel, mask)))) s

/-- WINDOW_SET (R137). -/
def execWindowSet (p : PortId) (xs xe ys ye flags : Byte) (s : State) : Host.Outcome State Fault Refusal :=
  event (State.take p [.b] false (State.windowSetBlock (some (xs, xe, ys, ye, flags)))) s

/-- PATTERN_LOAD (R143). -/
def execPatternLoad (p : PortId) (values : List Word16) (s : State) : Host.Outcome State Fault Refusal :=
  event (State.take p [.b] false (State.patternLoadBlock (some values))) s

/-- OP_FILL (R142). -/
def execOpFill (p : PortId) (value : Word16) (s : State) : Host.Outcome State Fault Refusal :=
  event (State.take p [.b] true (State.operationBlock (State.fillKind value))) s

/-- OP_PATTERN (R143). -/
def execOpPattern (p : PortId) (s : State) : Host.Outcome State Fault Refusal :=
  event (State.take p [.b] true (State.operationBlock (some .pattern))) s

/-- OP_COPY (R144). -/
def execOpCopy (p : PortId) (row col : Byte) (s : State) : Host.Outcome State Fault Refusal :=
  event (State.take p [.b] true (State.operationBlock (State.copyKind s.eng.window row col))) s

/-- OP_EXPAND (R145). -/
def execOpExpand (p : PortId) (fore back : Word16) (keyed : Byte) (s : State) : Host.Outcome State Fault Refusal :=
  event (State.take p [.b] true (State.operationBlock (State.expandKind fore back keyed))) s

/-- OP_BLOCK (R146). -/
def execOpBlock (p : PortId) (s : State) : Host.Outcome State Fault Refusal :=
  event (State.take p [.b] true (State.operationBlock (some .block))) s

/-- OP_MASK (R147). -/
def execOpMask (p : PortId) (code : Byte) (fore : Word16) (s : State) : Host.Outcome State Fault Refusal :=
  event (State.take p [.b] true (State.operationBlock (State.maskKind code fore))) s

/-- OP_READ (R152). -/
def execOpRead (p : PortId) (kind : Byte) (s : State) : Host.Outcome State Fault Refusal :=
  event (State.take p [.b] true (State.operationBlock (State.readKind kind))) s

/-- OP_ABORT (R154). -/
def execOpAbort (p : PortId) (s : State) : Host.Outcome State Fault Refusal :=
  event (State.take p [.b] true (State.opAbortBlock (some ()))) s

namespace State

/-- The bytes of a DATA frame after its code, until the frame is no longer a WRITE frame (R149). -/
def dataBytes (p : PortId) : List Byte → State → State
  | [], s => s
  | b :: bytes, s => if (s.port p).frame = .write then dataBytes p bytes (s.dataByte p b) else s

/-- A whole DATA frame (R149): its code, its item bytes as they arrive, and the reply at its end. A port hold stops it there:
the frame then goes on with the frame events (notes/assumptions/11.md). -/
def dataFrame (p : PortId) (bytes : List Byte) (s : State) : State :=
  if (s.port p).prep.isSome ∨ s.holding p then s
  else
    let old := (s.port p).frame
    let a := (s.clearInput p).modPort p fun pt =>
      { pt with frame := .write, code := some dataCode, ack := true, data := s.dataStart p }
    let b := a.dataBytes p bytes
    if b.holding p then b else ((b.endData p).clearInput p).modPort p fun pt => { pt with frame := old }

end State

/-- DATA (R149). -/
def execData (p : PortId) (bytes : List Byte) (s : State) : Host.Outcome State Fault Refusal :=
  event (State.dataFrame p bytes) s

/-- DRAIN (R153). -/
def execDrain (p : PortId) (s : State) : Host.Outcome State Fault Refusal :=
  event (State.take p [.b] true (State.drainBlock (some ()))) s

/-- LINE_STANDBY (R110). -/
def execLineStandby (p : PortId) (line : Byte) (s : State) : Host.Outcome State Fault Refusal :=
  event (State.take p [.b] true (State.lineStandbyBlock (some line))) s

/-- LINE_WAKE (R112). -/
def execLineWake (p : PortId) (line : Byte) (s : State) : Host.Outcome State Fault Refusal :=
  event (State.take p [.b] true (State.lineWakeBlock (some line))) s

/-- WARM_RESTART (R174). -/
def execWarmRestart (p : PortId) (s : State) : Host.Outcome State Fault Refusal :=
  event (State.take p [.b] true (State.warmRestartBlock (some ()))) s

/-- CFG_WRITE (R170). -/
def execCfgWrite (p : PortId) (table : Byte) (index : Word16) (bytes : List Byte) (s : State) :
    Host.Outcome State Fault Refusal :=
  event (State.take p [.b] false (State.cfgWriteBlock (some (table, index, bytes)))) s

/-- CFG_READ (R171). -/
def execCfgRead (p : PortId) (table : Byte) (index : Word16) (s : State) : Host.Outcome State Fault Refusal :=
  event (State.take p [.b] false (State.cfgReadBlock (some (table, index)))) s

/-- CFG_DONE (R172). -/
def execCfgDone (p : PortId) (s : State) : Host.Outcome State Fault Refusal :=
  event (State.take p [.b] false (State.cfgDoneBlock (some ()))) s

end Sys2Proof.Machine
end

