-- ==== Sys2Proof/Machine/Resets.lean ====
section
/-!
DEFINITION. The meanings of HARDWARE_RESET and RESET_PIN_ASSERTED (R173).
-/

namespace Sys2Proof.Machine

/-- HARDWARE_RESET (R173): every block takes its hardware-reset state and the strap value sets each port's address. It is
taken whether the pin was asserted or the part powered on. The queue of waiting commands is the outside's and stays, and the
model's counter of free values goes on (notes/assumptions/5.md). -/
def execHardwareReset (strap : BitVec 2) (s : State) : Host.Outcome State Fault Refusal :=
  .next { State.hardwareReset strap with pending := s.pending, captures := s.captures }

/-- While the pin is asserted the part drives no acknowledge and no data (R173). -/
def Port.undriven (pt : Port) : Port := { pt with ack := false, sent := none }

/-- RESET_PIN_ASSERTED (R173): from here until HARDWARE_RESET no event is taken (`event`), no line is driven and every
attention line is released (`State.driverEnabled`, `State.attention`). -/
def execResetPinAsserted (s : State) : Host.Outcome State Fault Refusal :=
  .next ((({ s with resetPin := true }.modPort .f Port.undriven).modPort .b Port.undriven).modPort .o Port.undriven)

end Sys2Proof.Machine
end

