-- ==== Sys2Proof/Machine/Dispatch.lean ====
section
/-! DEFINITION. One arm per row of spec/opcode_table.json: each calls its meaning. -/

namespace Sys2Proof.Machine

/-- The effect of one command on everything but the queue. -/
def exec (i : Instr) (s : State) : Host.Outcome State Fault Refusal :=
  match i with
  | .hardwareReset strap => Sys2Proof.Machine.execHardwareReset strap s
  | .portStart p => Sys2Proof.Machine.execPortStart p s
  | .addressByte p byte => Sys2Proof.Machine.execAddressByte p byte s
  | .writeDataByte p byte => Sys2Proof.Machine.execWriteDataByte p byte s
  | .readDataByte p => Sys2Proof.Machine.execReadDataByte p s
  | .portRestart p => Sys2Proof.Machine.execPortRestart p s
  | .portStop p => Sys2Proof.Machine.execPortStop p s
  | .holdTimerExpiry p => Sys2Proof.Machine.execHoldTimerExpiry p s
  | .replyReady p => Sys2Proof.Machine.execReplyReady p s
  | .readStatus p => Sys2Proof.Machine.execReadStatus p s
  | .ackNotice p mask => Sys2Proof.Machine.execAckNotice p mask s
  | .queryVents p sel mask start => Sys2Proof.Machine.execQueryVents p sel mask start s
  | .queryZones p => Sys2Proof.Machine.execQueryZones p s
  | .queryWeather p => Sys2Proof.Machine.execQueryWeather p s
  | .queryLines p => Sys2Proof.Machine.execQueryLines p s
  | .alarm p zone => Sys2Proof.Machine.execAlarm p zone s
  | .clear p zone => Sys2Proof.Machine.execClear p zone s
  | .clearAll p => Sys2Proof.Machine.execClearAll p s
  | .override p zoneMask mode => Sys2Proof.Machine.execOverride p zoneMask mode s
  | .faultClear p sel mask => Sys2Proof.Machine.execFaultClear p sel mask s
  | .claim p sel mask value => Sys2Proof.Machine.execClaim p sel mask value s
  | .release p sel mask => Sys2Proof.Machine.execRelease p sel mask s
  | .windowSet p xs xe ys ye flags => Sys2Proof.Machine.execWindowSet p xs xe ys ye flags s
  | .patternLoad p values => Sys2Proof.Machine.execPatternLoad p values s
  | .opFill p value => Sys2Proof.Machine.execOpFill p value s
  | .opPattern p => Sys2Proof.Machine.execOpPattern p s
  | .opCopy p row col => Sys2Proof.Machine.execOpCopy p row col s
  | .opExpand p fore back keyed => Sys2Proof.Machine.execOpExpand p fore back keyed s
  | .opBlock p => Sys2Proof.Machine.execOpBlock p s
  | .opMask p code fore => Sys2Proof.Machine.execOpMask p code fore s
  | .opRead p kind => Sys2Proof.Machine.execOpRead p kind s
  | .opAbort p => Sys2Proof.Machine.execOpAbort p s
  | .data p bytes => Sys2Proof.Machine.execData p bytes s
  | .drain p => Sys2Proof.Machine.execDrain p s
  | .itemTake => Sys2Proof.Machine.execItemTake s
  | .scanVisit => Sys2Proof.Machine.execScanVisit s
  | .readItemProduce => Sys2Proof.Machine.execReadItemProduce s
  | .feedTimerExpiry => Sys2Proof.Machine.execFeedTimerExpiry s
  | .lineStandby p line => Sys2Proof.Machine.execLineStandby p line s
  | .lineWake p line => Sys2Proof.Machine.execLineWake p line s
  | .standbyDwellExpiry l => Sys2Proof.Machine.execStandbyDwellExpiry l s
  | .wakeTimerExpiry l => Sys2Proof.Machine.execWakeTimerExpiry l s
  | .warmRestart p => Sys2Proof.Machine.execWarmRestart p s
  | .cfgWrite p table index bytes => Sys2Proof.Machine.execCfgWrite p table index bytes s
  | .cfgRead p table index => Sys2Proof.Machine.execCfgRead p table index s
  | .cfgDone p => Sys2Proof.Machine.execCfgDone p s
  | .weatherByte byte => Sys2Proof.Machine.execWeatherByte byte s
  | .framingError => Sys2Proof.Machine.execFramingError s
  | .gapExpiry => Sys2Proof.Machine.execGapExpiry s
  | .staleTimerExpiry => Sys2Proof.Machine.execStaleTimerExpiry s
  | .deadlineExpiry z => Sys2Proof.Machine.execDeadlineExpiry z s
  | .pollTimerExpiry slot => Sys2Proof.Machine.execPollTimerExpiry slot s
  | .travelTimerExpiry slot => Sys2Proof.Machine.execTravelTimerExpiry slot s
  | .dwellTimerExpiry slot => Sys2Proof.Machine.execDwellTimerExpiry slot s
  | .endOfRequest l => Sys2Proof.Machine.execEndOfRequest l s
  | .driveLineReply l addr flags posHi posLo check => Sys2Proof.Machine.execDriveLineReply l addr flags posHi posLo check s
  | .replyGapExpiry l => Sys2Proof.Machine.execReplyGapExpiry l s
  | .replyTimerExpiry l => Sys2Proof.Machine.execReplyTimerExpiry l s
  | .lineResetTimerExpiry l => Sys2Proof.Machine.execLineResetTimerExpiry l s
  | .probeTimerExpiry slot => Sys2Proof.Machine.execProbeTimerExpiry slot s
  | .idlePollTimerExpiry slot => Sys2Proof.Machine.execIdlePollTimerExpiry slot s
  | .resetPinAsserted => Sys2Proof.Machine.execResetPinAsserted s
  | .lineByteReceived l byte => Sys2Proof.Machine.execLineByteReceived l byte s

end Sys2Proof.Machine
end

