-- ==== Sys2Proof/Machine/Idle.lean ====
section
/-!
DEFINITION. What the part does when no command waits (notes/assumptions/2.md): its own work that is due, or else one
millisecond passes. Work and expiries are put into the queue as commands of the table, so their effects are those of `exec`.
-/

namespace Sys2Proof.Machine

namespace State

/-! ## Work that is due -/

/-- The Window Engine's next event (R140, R150, R152). -/
def engineWork (s : State) : Option Instr :=
  match s.eng.op with
  | none => none
  | some o =>
    if o.kind.isRead then (if o.k < o.n ∧ s.fifoRoom then some .readItemProduce else none)
    else if o.kind.isInput then
      (if s.eng.hand.isSome then some .scanVisit else if s.mayTakeItem then some .itemTake else none)
    else some .scanVisit

/-- A line whose controller is transmitting (R119). -/
def transmitting (s : State) (l : LineId) : Bool :=
  match (s.dline l).flight with | some f => decide (f.phase = .sending) | none => false

/-- The next event of the part itself: the engine first, then the end of a request, then the end of a preparation. -/
def ownWork (s : State) : Option Instr :=
  match s.engineWork, allLines.find? s.transmitting, allPorts.find? fun p => (s.port p).prep.isSome with
  | some c, _, _ => some c
  | none, some l, _ => some (.endOfRequest l)
  | none, none, some p => some (.replyReady p)
  | none, none, none => none

end State

/-! ## One millisecond -/

/-- A running timer counts down. -/
def Timer.tick : Timer → Timer
  | .running (ms + 1) => .running ms
  | t => t

/-- A running timer has no time left. -/
def Timer.due (t : Timer) : Bool := decide (t = .running 0)

/-- A running deadline counts down. -/
def Deadline.tick : Deadline → Deadline
  | .running (ms + 1) => .running ms
  | t => t

/-- The reply timer or the byte gap of a transaction in flight counts down. -/
def Phase.tick : Phase → Phase
  | .waiting (ms + 1) => .waiting ms
  | .receiving left bytes (ms + 1) => .receiving left bytes ms
  | ph => ph

/-- The timers of a slot count down. -/
def Slot.tick (r : Slot) : Slot :=
  { r with
    travel := r.travel.tick, poll := r.poll.tick, dwell := r.dwell.tick, idlePoll := r.idlePoll.tick, probe := r.probe.tick }

/-- The timers of a controller count down. -/
def DriveLine.tick (d : DriveLine) : DriveLine :=
  { d with reset := d.reset.tick, flight := d.flight.map fun f => { f with phase := f.phase.tick } }

namespace State

/-- Every timer of the part counts down by one millisecond. -/
def countDown (s : State) : State :=
  let a := s.eachSlot allSlots fun i t => t.modSlot i Slot.tick
  let b := a.eachZone allZones fun z t => t.modZone z fun zn => { zn with timer := zn.timer.tick }
  let c := b.eachLine fun l t =>
    (t.modMline l fun m => { m with standbyDwell := m.standbyDwell.tick, wake := m.wake.tick }).modDline l DriveLine.tick
  let d := (c.modEng fun e => { e with feed := e.feed.tick }).modWx fun w => { w with gap := w.gap.tick, stale := w.stale.tick }
  allPorts.foldl (fun t p => t.modPort p fun pt => { pt with hold := pt.hold.tick }) d

/-- An event, when its condition holds. -/
def expiry (b : Bool) (c : Instr) : List Instr := if b then [c] else []

/-- Expiries due on a line. -/
def lineDue (s : State) (l : LineId) : List Instr :=
  expiry (s.mline l).standbyDwell.due (.standbyDwellExpiry l) ++ expiry (s.mline l).wake.due (.wakeTimerExpiry l) ++
    expiry (s.dline l).reset.due (.lineResetTimerExpiry l) ++
    match (s.dline l).flight with
    | some { phase := .waiting 0, .. } => [.replyTimerExpiry l]
    | some { phase := .receiving _ _ 0, .. } => [.replyGapExpiry l]
    | _ => []

/-- Expiries due at a slot. -/
def slotDue (s : State) (i : SlotId) : List Instr :=
  expiry (s.slot i).travel.due (.travelTimerExpiry i) ++ expiry (s.slot i).poll.due (.pollTimerExpiry i) ++
    expiry (s.slot i).dwell.due (.dwellTimerExpiry i) ++ expiry (s.slot i).probe.due (.probeTimerExpiry i) ++
    expiry (s.slot i).idlePoll.due (.idlePollTimerExpiry i)

/-- The expiries that are due, in the model's fixed order. -/
def expiriesDue (s : State) : List Instr :=
  expiry s.eng.feed.due .feedTimerExpiry ++ (allPorts.flatMap fun p => expiry (s.port p).hold.due (.holdTimerExpiry p)) ++
    allLines.flatMap s.lineDue ++ expiry s.wx.gap.due .gapExpiry ++ expiry s.wx.stale.due .staleTimerExpiry ++
    (allZones.flatMap fun z => expiry (decide ((s.zone z).timer = .running 0)) (.deadlineExpiry z)) ++
    allSlots.flatMap s.slotDue

/-- One millisecond passes, and the expiries it brings are queued. -/
def tick (s : State) : State := { s.countDown with pending := s.countDown.expiriesDue }

/-- The part with no command waiting. While the reset pin is asserted it does nothing (R173). -/
def idle (s : State) : State :=
  if s.resetPin then s
  else
    match s.ownWork with
    | some c => { s with pending := [c] }
    | none => s.tick

end State

end Sys2Proof.Machine
end

