-- ==== Sys2Proof/Safety.lean ====
section
/-!
DEFINITION. What the claims are stated with: what an event leaves as it was (frames), a port's reply, how a command stands in
a frame, and the laws of the part that every step keeps.
-/

namespace Sys2Proof.Machine

/-! ## Frames -/

/-- A slot with everything about its move blanked: MOTION's fields but the fault code (R12, R96). -/
def Slot.still (r : Slot) : Slot :=
  { r with
    motion := .detached, permit := false, entryTime := none, cls := none, dir := none
    travel := .stopped, poll := .stopped, dwell := .stopped, stoppedShort := 0, deferred := false }

/-- A slot with its move and its composed pair blanked (R20). -/
def Slot.untargeted (r : Slot) : Slot := { r.still with target := none, source := .rest }

/-- A slot with its move, its composed pair and its fire value blanked (R29). -/
def Slot.unfired (r : Slot) : Slot := { r.untargeted with fire := .absent }

/-- A slot with its move, its fault code, its composed pair and its fire value blanked: what is left belongs to the BMS layer,
the hold capture, the weather and the link. -/
def Slot.unfaulted (r : Slot) : Slot := { r.unfired with fault := .none }

/-- As `Slot.unfaulted`, with the BMS entry blanked as well (R32). -/
def Slot.unclaimed (r : Slot) : Slot := { r.unfaulted with bms := none }

/-- As `Slot.unfaulted`, with the hold capture blanked as well (R25). -/
def Slot.unheld (r : Slot) : Slot := { r.unfaulted with hold := none }

/-- As `Slot.unheld`, with the controller's fields blanked as well (R115): what is left is the BMS entry and the weather. -/
def Slot.unlinked (r : Slot) : Slot :=
  { r.unheld with
    link := .unmapped, position := none, flags := 0, idlePoll := .stopped, probe := .stopped, profileNext := none
    refusedMark := false }

/-- As `Slot.unfaulted`, with the wind class and the ceiling blanked as well (R84, R85). -/
def Slot.becalmed (r : Slot) : Slot := { r.unfaulted with windClass := .calm, ceiling := 0 }

/-- A zone with its sums, latch and status blanked: its action, timer and override mode are left. -/
def Zone.unsummed (zn : Zone) : Zone := { zn with avail := 0, conf := 0, latch := false, status := .quiet }

/-- A port apart from its notice flags and a reply being prepared. -/
def Port.apart (pt : Port) : Port := { pt with flags := 0, prep := none }

/-- What an event leaves as it was, lines apart: `π` blanks the fields of a slot that may change, `ζ` those of a zone. Notice
flags may be raised and none is cleared; a reply being prepared may go on and does not end. -/
structure Keeps (π : Slot → Slot) (ζ : Zone → Zone) (s t : State) : Prop where
  resetPin : t.resetPin = s.resetPin
  mode : t.mode = s.mode
  tables : t.tables = s.tables
  alarms : t.alarms = s.alarms
  wx : t.wx = s.wx
  eng : t.eng = s.eng
  captures : t.captures = s.captures
  pending : t.pending = s.pending
  limits : ∀ l, (t.mline l).fireLimit = (s.mline l).fireLimit
  slots : ∀ i, π (t.slot i) = π (s.slot i)
  zones : ∀ z, ζ (t.zone z) = ζ (s.zone z)
  ports : ∀ p, (t.port p).apart = (s.port p).apart
  preparing : ∀ p, (t.port p).prep.isSome = (s.port p).prep.isSome
  flags : ∀ p k, (s.port p).notice k = true → (t.port p).notice k = true

/-! ## Ports -/

/-- The state with a reply in a port and its input buffer emptied (R160, R161). -/
def State.replied (p : PortId) (r : Reply) (s : State) : State :=
  s.modPort p fun pt => { pt with reply := r, code := none, params := [], data := {} }

/-- The state with a reply being prepared in a port and its input buffer emptied (R160, R162). -/
def State.preparing (p : PortId) (todo : List Capture) (tail : List Byte) (s : State) : State :=
  { (s.modPort p fun pt =>
      { pt with
        reply := {}, prep := some { todo := todo, tail := tail, take := s.captures }, code := none, params := [], data := {} }) with
    captures := s.captures + 1 }

/-- A port can take a command: the reset pin is released and no reply is being prepared. -/
def State.ready (s : State) (p : PortId) : Prop := s.resetPin = false ∧ (s.port p).prep = none

/-- How a command of the command table stands in a write frame: its port, its code and its parameter bytes (R160, R176). DATA
is left out: its bytes are taken as they arrive. -/
def frameOf : Instr → Option (PortId × Byte × List Byte)
  | .readStatus p => some (p, 0x01, [])
  | .ackNotice p mask => some (p, 0x02, bytes16 mask.toNat)
  | .queryVents p sel mask start => some (p, 0x03, bytes16 sel.toNat ++ bytes16 mask.toNat ++ [start])
  | .queryZones p => some (p, 0x04, [])
  | .queryWeather p => some (p, 0x05, [])
  | .queryLines p => some (p, 0x06, [])
  | .alarm p zone => some (p, 0x10, [zone])
  | .clear p zone => some (p, 0x11, [zone])
  | .clearAll p => some (p, 0x12, [])
  | .override p zoneMask mode => some (p, 0x20, [zoneMask, mode])
  | .faultClear p sel mask => some (p, 0x21, bytes16 sel.toNat ++ bytes16 mask.toNat)
  | .claim p sel mask value => some (p, 0x30, bytes16 sel.toNat ++ bytes16 mask.toNat ++ bytes16 value.toNat)
  | .release p sel mask => some (p, 0x31, bytes16 sel.toNat ++ bytes16 mask.toNat)
  | .windowSet p xs xe ys ye flags => some (p, 0x32, [xs, xe, ys, ye, flags])
  | .opFill p value => some (p, 0x33, bytes16 value.toNat)
  | .opPattern p => some (p, 0x34, [])
  | .opCopy p row col => some (p, 0x35, [row, col])
  | .opExpand p fore back keyed => some (p, 0x36, bytes16 fore.toNat ++ bytes16 back.toNat ++ [keyed])
  | .opBlock p => some (p, 0x37, [])
  | .opMask p code fore => some (p, 0x38, code :: bytes16 fore.toNat)
  | .opRead p kind => some (p, 0x39, [kind])
  | .opAbort p => some (p, 0x3A, [])
  | .drain p => some (p, 0x3C, [])
  | .patternLoad p values => some (p, 0x3D, values.flatMap fun v => bytes16 v.toNat)
  | .lineStandby p line => some (p, 0x40, [line])
  | .lineWake p line => some (p, 0x41, [line])
  | .warmRestart p => some (p, 0x42, [])
  | .cfgWrite p table index bytes => some (p, 0x50, table :: bytes16 index.toNat ++ bytes)
  | .cfgRead p table index => some (p, 0x51, table :: bytes16 index.toNat)
  | .cfgDone p => some (p, 0x52, [])
  | _ => none

/-- The ports that may send a command code (the command table of R160). -/
def portsOfCode (code : Byte) : List PortId :=
  if code.toNat ≤ 0x06 then [.f, .b, .o]
  else if code.toNat ≤ 0x12 then [.f]
  else if code.toNat = 0x20 then [.o]
  else if code.toNat = 0x21 then [.o, .b]
  else [.b]

/-- The command codes marked RUN only (the command table of R160). -/
def runOnlyCode (code : Byte) : Bool :=
  code.toNat ∈ [0x21, 0x30, 0x31, 0x33, 0x34, 0x35, 0x36, 0x37, 0x38, 0x39, 0x3A, 0x3C, 0x40, 0x41, 0x42]

/-- Every code of the command table (R160). -/
def commandCodes : List Nat :=
  [0x01, 0x02, 0x03, 0x04, 0x05, 0x06, 0x10, 0x11, 0x12, 0x20, 0x21, 0x30, 0x31, 0x32, 0x33, 0x34, 0x35, 0x36, 0x37, 0x38, 0x39,
    0x3A, 0x3B, 0x3C, 0x3D, 0x40, 0x41, 0x42, 0x50, 0x51, 0x52]

/-- How many parameter bytes a command takes (R176). DATA carries any number and CFG_WRITE as many as its record. -/
def paramCount (code : Byte) : Option Nat :=
  match code.toNat with
  | 0x01 | 0x04 | 0x05 | 0x06 | 0x12 | 0x34 | 0x37 | 0x3A | 0x3C | 0x42 | 0x52 => some 0
  | 0x10 | 0x11 | 0x39 | 0x40 | 0x41 => some 1
  | 0x02 | 0x20 | 0x33 | 0x35 => some 2
  | 0x38 | 0x51 => some 3
  | 0x21 | 0x31 => some 4
  | 0x03 | 0x32 | 0x36 => some 5
  | 0x30 => some 6
  | 0x3D => some 32
  | _ => none

/-! ## Laws of the part -/

/-- R42: a zone is on the alarm list at most once. -/
def State.AlarmsOk (s : State) : Prop := s.alarms.Nodup

/-- R78, R79, R80, R83: the smoothed direction is an angle, the smoothed speed and every gust entry are in 0–600, and the rain
counter is in 0–255. -/
def Weather.Ok (w : Weather) : Prop :=
  w.sdir < 3600 ∧ w.sv ≤ 600 ∧ (∀ j : Fin 8, w.ring[j] ≤ 600) ∧ w.rainCount ≤ 255

/-- Steps of the scan that one item covers: one for a BLOCK, sixteen for a bit item (R145, R150). -/
def Op.unit (o : Op) : Nat := if o.kind = .block then 1 else 16

/-- R145, R149, R150 for an input operation: every item accepted has been applied, is in hand or waits in the FIFO, and no
more are accepted than the operation needs; a RUNNING one still has an item to apply. -/
def Engine.ItemsOk (e : Engine) (o : Op) : Prop :=
  o.needed = o.kind.needed o.n ∧ o.accepted ≤ o.needed ∧ (o.feeding = true → o.accepted < o.needed) ∧
    (e.hand.isSome = true → o.k < o.n ∧ o.accepted = e.fifo.length + o.k / o.unit + 1) ∧
    (e.hand = none → (o.k % o.unit = 0 ∨ o.k = o.n) ∧ o.accepted = e.fifo.length + (o.k + o.unit - 1) / o.unit) ∧
    (o.feeding = true ∨ e.hand.isSome = true ∨ e.fifo ≠ [])

/-- R136, R140, R148: the FIFO holds at most 16 items, and none while the engine is IDLE; steps visited and `remaining` add up
to N, and no more results are counted than steps visited; items are held for an operation that takes or gives them. -/
def Engine.Ok (e : Engine) : Prop :=
  e.fifo.length ≤ 16 ∧
    match e.op with
    | none => e.fifo = [] ∧ e.hand = none ∧ e.snapshot = [] ∧ e.feed = .stopped ∧ e.due = .none
    | some o =>
      o.k ≤ o.n ∧ e.remaining + o.k = o.n ∧ e.written + e.skipped + e.refused ≤ o.k ∧ (o.feeding = false → e.feed = .stopped) ∧
        if o.kind.isInput then e.ItemsOk o
        else e.hand = none ∧ o.feeding = false ∧ (o.kind.isRead = false → e.fifo = [])

/-- R42, R55, R60, R61 for one zone: outside EXHAUST the status is QUIET, the latch clear and the timer STOPPED; in EXHAUST the
timer is not STOPPED and the status is not QUIET. -/
def Zone.Ok (zn : Zone) : Prop :=
  (zn.action ≠ .exhaust → zn.status = .quiet ∧ zn.latch = false ∧ zn.timer = .stopped) ∧
    (zn.action = .exhaust → zn.status ≠ .quiet ∧ zn.timer ≠ .stopped)

/-- R106: an entry of a line's permit queue is a QUEUED slot of that line, and is in the queue once. -/
def State.QueueOk (s : State) : Prop :=
  ∀ l, (s.mline l).queue.Nodup ∧ ∀ i ∈ (s.mline l).queue, (s.slot i).motion = .queued ∧ (s.vent i).line = l

/-- R14, R21, R47, R89, R113, R115, R136: while UNCONFIGURED the slots, the zones but for their override modes, the lines,
their controllers and the Window Engine's operation stand as a hardware reset leaves them, and the weather is STALE. (What a
reset leaves a slot's `dir` and `deferred` at is the model's choice, notes/assumptions/7.md.) -/
def State.FreshOk (s : State) : Prop :=
  s.mode = .unconfigured →
    (∀ i, s.slot i = {}) ∧ (∀ z, s.zone z = { override := (s.zone z).override }) ∧ (∀ l, s.mline l = {} ∧ s.dline l = {}) ∧
      s.eng.op = none ∧ s.wx.live = false ∧ s.wx.stale = .stopped

/-- R97, R101: the travel and poll timers run only for a slot in MOVING, the dwell timer only for a slot in DWELL. -/
def State.TimersOk (s : State) : Prop :=
  ∀ i, ((s.slot i).travel ≠ .stopped ∨ (s.slot i).poll ≠ .stopped → (s.slot i).motion = .moving) ∧
    ((s.slot i).dwell ≠ .stopped → (s.slot i).motion = .dwell)

/-- A motion state in which a slot holds a permit (5.2). -/
def Motion.holds : Motion → Bool
  | .starting | .moving | .stopping _ | .dwell => true
  | .detached | .idle | .queued | .fault => false

/-- The table of 5.2 and the converse of `QueueOk` (R106): a slot holds a permit exactly in STARTING, MOVING, STOPPING and
DWELL, and is then among its line's holders, which hold each slot once; a QUEUED slot is in its line's queue. -/
def State.PermitOk (s : State) : Prop :=
  (∀ i, (s.slot i).permit = (s.slot i).motion.holds ∧
    ((s.slot i).permit = true → i ∈ (s.mline (s.vent i).line).holders) ∧
    ((s.slot i).motion = .queued → i ∈ (s.mline (s.vent i).line).queue)) ∧
    ∀ l, (s.mline l).holders.Nodup ∧ ∀ i ∈ (s.mline l).holders, (s.slot i).permit = true ∧ (s.vent i).line = l

/-- The transactions of a line: pending, or in flight and not abandoned (R133). -/
def State.onLine (s : State) (l : LineId) (x : Trans) : Prop :=
  x ∈ (s.dline l).queue ∨ ∃ f, (s.dline l).flight = some f ∧ f.abandoned = false ∧ f.trans = x

/-- R2, R12, R125: an unmapped slot stands as a hardware reset leaves it (its `dir` and `deferred` by
notes/assumptions/7.md), and every transaction for a slot is for a mapped member of its line. -/
def State.MappedOk (s : State) : Prop :=
  (∀ i, (s.vent i).mapped = false → s.slot i = {}) ∧
    ∀ l x i, s.onLine l x → x.slot? = some i → (s.vent i).mapped = true ∧ (s.vent i).line = l

/-- R106: a permit queue is ordered by permit class and then by entry time. Every entry has a class and an entry time, which no
other entry of its line has and which the line's entry count has reached. -/
def State.OrderOk (s : State) : Prop :=
  ∀ l, let q := (s.mline l).queue
    (∀ i ∈ q, (s.slot i).cls ≠ none ∧ ∃ n, (s.slot i).entryTime = some n ∧ n ≤ (s.mline l).entryCount) ∧
      q.Pairwise fun i j => s.before i j = true ∧ (s.slot i).entryTime ≠ (s.slot j).entryTime

/-- The second law of R107: a MOVE that is pending, or in flight and neither withdrawn nor abandoned, is for a slot that holds a
permit on an ACTIVE line. R109: a line in STANDBY or WAKING holds no permits. -/
def State.MovesOk (s : State) : Prop :=
  (∀ l i target fast, Trans.move i target fast ∈ (s.dline l).queue ∨
      (∃ f, (s.dline l).flight = some f ∧ f.withdrawn = false ∧ f.abandoned = false ∧ f.trans = .move i target fast) →
    (s.slot i).permit = true ∧ (s.mline l).power = .active) ∧
  ∀ l, (s.mline l).power ≠ .active → (s.mline l).holders = []

/-- R53–R55, R58, R59, R61: in RUN every zone's sums are those its members give now, an EXHAUST zone's status follows from its
confirmed area and its timer, and its latch is clear only while the available area reaches the required one. -/
def State.AreasOk (s : State) : Prop :=
  s.mode = .run → ∀ z,
    (s.zone z).avail = s.availOf z ∧ (s.zone z).conf = s.confOf z ∧
      ((s.zone z).action = .exhaust →
        (s.zone z).status = exhaustStatus (s.zone z).conf (s.zoneCfg z).areq (s.zone z).timer ∧
          ((s.zone z).latch = false → (s.zoneCfg z).areq ≤ (s.zone z).avail))

/-- A valid profile entry of a slot (R10). -/
def State.validEntry (s : State) (i : SlotId) (e : Fin 8) : Bool := (s.tables.profiles[i][e]).valid

/-- The PROFILE transactions of a slot that are pending on a line or in flight and not abandoned. -/
def State.profilesOn (s : State) (l : LineId) (i : SlotId) : Nat :=
  let is : Trans → Bool := fun x => decide (x.kind = 3 ∧ x.slot? = some i)
  ((s.dline l).queue.filter is).length + (match (s.dline l).flight with | some f => bit (!f.abandoned && is f.trans) | none => 0)

/-- R127: a PROFILING slot is at a valid entry, a PROFILE on a line carries the entry its PROFILING slot is at, and a slot has at
most one. -/
def State.ProfileOk (s : State) : Prop :=
  (∀ i, (s.slot i).link = .profiling → ∃ e, (s.slot i).profileNext = some e ∧ s.validEntry i e = true) ∧
    (∀ l i e, s.onLine l (.profile i e) → (s.slot i).link = .profiling ∧ (s.slot i).profileNext = some e) ∧
      ∀ l i, s.profilesOn l i ≤ 1

/-- R20, R29–R31: in RUN every mapped slot's fire value, source and target are those its layers give. -/
def State.ComposedOk (s : State) : Prop :=
  s.mode = .run → ∀ i, (s.vent i).mapped = true →
    (s.slot i).fire = s.fireValueOf i ∧ ((s.slot i).source, (s.slot i).target) = s.composedOf i

end Sys2Proof.Machine
end

