-- ==== Sys2Proof/Certificates/Slice0/Obligations.lean ====
section
/-!
DEFINITION. The statements for the provers. "R<n>" is a numbered rule of spec/; a statement that rests on a choice of the
model names its log entry. In every statement `t.advanceCaptures` is `t` after a reply being prepared has gone on (R162,
notes/assumptions/5.md): nothing but the records captured so far can differ.
-/

open Sys2Proof Sys2Proof.Machine

/-! ## The block as a whole -/

/-- The step takes the command at the front of the queue (the model's queue, notes/assumptions/1.md). -/
def Obligations.StepTakesTheFrontCommand : Prop :=
  ∀ (c : Instr) (rest : List Instr) (s : State), step { s with pending := c :: rest } = exec c { s with pending := rest }

/-- With nothing waiting the step goes on by itself and never stops (the model's choice, notes/assumptions/2.md): it does nothing
while the reset pin is asserted; else it queues its own next work: the engine's, else the end of a request being sent, else the
end of a preparation. With no work due every running timer loses 1 ms, and the expiry of each timer at 0 is queued. -/
def Obligations.EmptyQueueStepGoesOn : Prop :=
  ∀ s : State, s.pending = [] →
    let engineWork : Option Instr :=
      match s.eng.op with
      | none => none
      | some o =>
        if o.kind.isRead then (if o.k < o.n ∧ s.eng.fifo.length < 16 then some .readItemProduce else none)
        else if o.kind.isInput then
          (if s.eng.hand ≠ none then some .scanVisit else if s.eng.fifo ≠ [] then some .itemTake else none)
        else some .scanVisit
    let sending := fun l : LineId => (s.dline l).flight.map (fun f => f.phase) = some .sending
    let down : Timer → Timer := fun x => match x with | .running (n + 1) => .running n | x => x
    ∃ t, step s = .next t ∧ (s.resetPin = true → t = s) ∧
      (s.resetPin = false → ∀ c, s.ownWork = some c → t = { s with pending := [c] }) ∧
      (s.resetPin = false → s.ownWork = none → t = { s.countDown with pending := s.countDown.expiriesDue }) ∧
      (s.resetPin = false →
        (∀ c, engineWork = some c → t = { s with pending := [c] }) ∧
        (engineWork = none → (∃ l, sending l) → ∃ l, sending l ∧ t = { s with pending := [.endOfRequest l] }) ∧
        (engineWork = none → (∀ l, ¬ sending l) → (∃ p, (s.port p).prep ≠ none) →
          ∃ p, (s.port p).prep ≠ none ∧ t = { s with pending := [.replyReady p] }) ∧
        (engineWork = none → (∀ l, ¬ sending l) → (∀ p, (s.port p).prep = none) →
          t = { s with
                slots := t.slots, zones := t.zones, motion := t.motion, dlc := t.dlc, ports := t.ports, pending := t.pending
                eng := { s.eng with feed := down s.eng.feed }
                wx := { s.wx with gap := down s.wx.gap, stale := down s.wx.stale } } ∧
          (∀ i, t.slot i =
            { s.slot i with
              travel := down (s.slot i).travel, poll := down (s.slot i).poll, dwell := down (s.slot i).dwell
              idlePoll := down (s.slot i).idlePoll, probe := down (s.slot i).probe }) ∧
          (∀ z, t.zone z =
            { s.zone z with timer := match (s.zone z).timer with | .running (n + 1) => .running n | x => x }) ∧
          (∀ l, t.mline l =
            { s.mline l with standbyDwell := down (s.mline l).standbyDwell, wake := down (s.mline l).wake }) ∧
          (∀ l, t.dline l =
            { s.dline l with
              reset := down (s.dline l).reset
              flight := (s.dline l).flight.map fun f =>
                { f with
                  phase :=
                    match f.phase with
                    | .waiting (n + 1) => .waiting n
                    | .receiving left bytes (n + 1) => .receiving left bytes n
                    | x => x } }) ∧
          (∀ p, t.port p = { s.port p with hold := down (s.port p).hold }) ∧
          ∀ c, c ∈ t.pending ↔
            (c = .feedTimerExpiry ∧ t.eng.feed = .running 0) ∨ (c = .gapExpiry ∧ t.wx.gap = .running 0) ∨
            (c = .staleTimerExpiry ∧ t.wx.stale = .running 0) ∨
            (∃ p, c = .holdTimerExpiry p ∧ (t.port p).hold = .running 0) ∨
            (∃ z, c = .deadlineExpiry z ∧ (t.zone z).timer = .running 0) ∨
            (∃ l, c = .standbyDwellExpiry l ∧ (t.mline l).standbyDwell = .running 0 ∨
              c = .wakeTimerExpiry l ∧ (t.mline l).wake = .running 0 ∨
              c = .lineResetTimerExpiry l ∧ (t.dline l).reset = .running 0 ∨
              c = .replyTimerExpiry l ∧ (t.dline l).flight.map (fun f => f.phase) = some (.waiting 0) ∨
              c = .replyGapExpiry l ∧ ∃ left bytes,
                (t.dline l).flight.map (fun f => f.phase) = some (.receiving left bytes 0)) ∨
            ∃ i, c = .travelTimerExpiry i ∧ (t.slot i).travel = .running 0 ∨
              c = .pollTimerExpiry i ∧ (t.slot i).poll = .running 0 ∨
              c = .dwellTimerExpiry i ∧ (t.slot i).dwell = .running 0 ∨
              c = .probeTimerExpiry i ∧ (t.slot i).probe = .running 0 ∨
              c = .idlePollTimerExpiry i ∧ (t.slot i).idlePoll = .running 0))

/-- RESET_PIN_ASSERTED (R173) completes in every state: the part drives no acknowledge and no data, and nothing else changes.
While the pin is asserted no event but a reset is taken, no line is driven and every attention line is released. That a port
hold in progress releases the clock meanwhile is the model's choice (notes/assumptions/30.md): the manual does not say. -/
def Obligations.AssertedResetPinStopsThePart : Prop :=
  (∀ s : State, ∃ t, exec .resetPinAsserted s = .next t ∧ t = { s with resetPin := true, ports := t.ports } ∧
    ∀ p, t.port p = { s.port p with ack := false, sent := none }) ∧
  ∀ s : State, s.resetPin = true →
    (∀ c : Instr, (∀ strap, c ≠ .hardwareReset strap) → c ≠ .resetPinAsserted → exec c s = .next s) ∧
      (∀ p, s.attention p = false ∧ s.clockHeld p = false) ∧ ∀ l, s.driverEnabled l = false

/-- HARDWARE_RESET completes in every state, whether or not the pin was asserted, and leaves every table and every block at
its hardware-reset values (R173; R3, R10, R14, R23, R33, R48, R49, R52, R67, R89, R91, R104, R113, R116, R134, R136, R157). Three
of the values are the model's, for the rules' tables do not list them: a slot's recorded move direction none and its deferred
mark no (`dir`, `deferred`: the model's choice, notes/assumptions/7.md), and a line-reset timer stopped (the model's deduction,
notes/assumptions/7.md). The commands waiting outside stay (the model's choice, notes/assumptions/24.md) and the model's counter
of free values goes on (the model's choice, notes/assumptions/5.md). -/
def Obligations.HardwareResetRestoresEveryBlock : Prop :=
  ∀ (strap : BitVec 2) (s : State), ∃ t, exec (.hardwareReset strap) s = .next t ∧
    t.resetPin = false ∧ t.mode = .unconfigured ∧ t.alarms = [] ∧ t.pending = s.pending ∧ t.captures = s.captures ∧
    (∀ i, t.vent i =
      { mapped := false, line := .a, bus := 1, cls := .sv, zone := 0, facing := .flat, freeArea := 1, deadband := 10, rest := 0
        travelLimit := 90, tag := 0x0000, bcastRefuse := false }) ∧
    (∀ (i : SlotId) (e : Fin 8), t.tables.profiles[i][e] = { attrId := 0, value := 0, valid := false }) ∧
    (∀ z, t.zoneCfg z = { areq := 0, deadline := 60, windSelect := true }) ∧ (∀ a z, t.planAt a z = .none) ∧
    (∀ l, t.lineCfg l =
      { kNorm := 2, kFire := 4, movePoll := 2, revDwell := 10, wakeTime := 5, timeoutCode := 4, attempts := 3, idlePoll := 5
        probe := 10, failLimit := 4, resetCode := 49 }) ∧
    t.tables.weather =
      { staleTime := 10, k := 3, vOn := 30, vOff := 20, vStorm := 150, rainHold := 120, cWind := 300, wHalf := 600
        lHalf := 600 } ∧
    (∀ p, t.portCfg p =
      { addr := BitVec.ofNat 7 (0x3A + strap.toNat), mask := 0x7F, holds := true, holdMax := 25, enables := 0x03FF
        policy := 0 }) ∧
    (∀ j : Fin 3, t.tables.policies[j] =
      { claimSv := true, claimCw := true, claimIw := true, clearSv := true, clearCw := true, clearIw := true }) ∧
    (∀ i, t.slot i =
      { bms := none, hold := none, fire := .absent, target := none, source := .rest, windClass := .calm, ceiling := 0
        link := .unmapped, position := none, flags := 0, motion := .detached, fault := .none, permit := false
        entryTime := none, cls := none, dir := none, travel := .stopped, poll := .stopped, dwell := .stopped, stoppedShort := 0
        deferred := false, idlePoll := .stopped, probe := .stopped, profileNext := none, refusedMark := false }) ∧
    (∀ z, t.zone z =
      { action := .none, status := .quiet, latch := false, timer := .stopped, avail := 0, conf := 0, override := .auto }) ∧
    (t.wx.rx = [] ∧ t.wx.gap = .stopped ∧ t.wx.errors = 0 ∧ t.wx.last.received = false ∧ t.wx.live = false ∧
      t.wx.stale = .stopped ∧ t.wx.sdir = 0 ∧ t.wx.sv = 0 ∧ (∀ j : Fin 8, t.wx.ring[j] = 0) ∧ t.wx.gate = false ∧
      t.wx.storm = .unknown ∧ t.wx.rain = .unknown ∧ t.wx.rainCount = 0) ∧
    (∀ l, t.mline l =
      { fireLimit := false, holders := [], queue := [], entryCount := 0, preempting := 0, power := .active
        standbyDwell := .stopped, wake := .stopped }) ∧
    (∀ l, t.dline l = { state := .run, queue := [], flight := none, failures := 0, reset := .stopped, owed := false }) ∧
    (t.eng.window = { xs := 0, xe := 15, ys := 0, ye := 11, mv := false, mx := false, my := false } ∧
      (∀ j : Fin 16, t.eng.tile[j] = 0xFFFF) ∧ t.eng.op = none ∧ t.eng.hand = none ∧ t.eng.snapshot = [] ∧
      t.eng.fifo = [] ∧ t.eng.feed = .stopped ∧ t.eng.written = 0 ∧ t.eng.skipped = 0 ∧ t.eng.refused = 0 ∧
      t.eng.remaining = 0 ∧ t.eng.outcome = .none ∧ t.eng.due = .none) ∧
    ∀ p, (t.port p).frame = .idle ∧ (t.port p).code = none ∧ (t.port p).params = [] ∧
      (t.port p).reply = { status := .ok, payload := [] } ∧ (t.port p).prep = none ∧ (t.port p).flags = 0 ∧
      (t.port p).errors = 0 ∧ (t.port p).hold = .stopped

/-! ## Frames on a port (chapter 8) -/

/-- PORT_START, PORT_RESTART and PORT_STOP where no command is to be taken: in IDLE, in a read frame, in a write frame with no code,
or in one in which a byte was refused (DATA apart). The port awaits an address byte, with the address and mask its record holds
at that moment, or is IDLE; the input buffer is empty and the reply of the last command stands (R157, R158, R159). -/
def Obligations.FrameBoundsWithoutACommand : Prop :=
  ∀ (p : PortId) (s : State), s.resetPin = false →
    ((s.port p).frame = .idle ∨ (s.port p).frame = .read ∨ (s.port p).frame = .write ∧ (s.port p).code = none ∨
      (s.port p).frame = .ignoring ∧ (s.port p).code ≠ some 0x3B) →
    (∀ c, c = Instr.portStart p ∨ c = Instr.portRestart p →
      exec c s = .next (s.modPort p fun pt =>
        { pt with
          frame := .idle, awaiting := true, frameAddr := (s.portCfg p).addr, frameMask := (s.portCfg p).mask, code := none
          params := [], data := {} }).advanceCaptures) ∧
    exec (.portStop p) s = .next (s.modPort p fun pt =>
      { pt with frame := .idle, awaiting := false, code := none, params := [], data := {} }).advanceCaptures

/-- ADDRESS_BYTE after a start (R158, R162, R163): it matches when the address bits, exclusive-ORed with the port's address and
ANDed with its mask, give 0. Then the frame opens by the direction bit; while a reply is being prepared it is held, or, with
holds not permitted, a read is answered PENDING and a write is refused. -/
def Obligations.AddressByteOpensTheFrame : Prop :=
  ∀ (p : PortId) (b : Byte) (s : State), s.resetPin = false → (s.port p).frame = .idle → (s.port p).awaiting = true →
    exec (.addressByte p b) s = .next (s.modPort p fun pt =>
      if (b.extractLsb' 1 7 ^^^ pt.frameAddr) &&& pt.frameMask ≠ 0 then
        { pt with awaiting := false, frame := .ignoring, ack := false }
      else if pt.prep.isSome ∧ (s.portCfg p).holds = true then
        { pt with
          awaiting := false, frame := .holding (if b.getLsbD 0 then .readAddress else .writeAddress), ack := false
          hold := .running (s.portCfg p).holdMax }
      else if pt.prep.isSome ∧ b.getLsbD 0 = false then { pt with awaiting := false, frame := .ignoring, ack := false }
      else
        { pt with
          awaiting := false, frame := if b.getLsbD 0 then .read else .write, ack := true, hold := .stopped
          readIndex := 0, readPending := pt.prep.isSome, code := none, params := [], data := {} }).advanceCaptures

/-- WRITE_DATA_BYTE. In IDLE and IGNORING it is not acknowledged and nothing else changes (R158). In a write frame that is no
DATA frame (R159) the first byte is the code and is acknowledged; a parameter
joins the input buffer; the one that finds 128 there is refused, the frame becomes IGNORING, the port error count rises (and
stays at 65535) and PORT_ERR is raised on this port alone. -/
def Obligations.WriteByteJoinsTheInputBuffer : Prop :=
  ∀ (p : PortId) (b : Byte) (s : State), s.resetPin = false →
    ((s.port p).frame = .idle ∨ (s.port p).frame = .ignoring →
      exec (.writeDataByte p b) s = .next (s.modPort p fun pt => { pt with ack := false }).advanceCaptures) ∧
    ((s.port p).frame = .write → (s.port p).code = none → b ≠ 0x3B →
      exec (.writeDataByte p b) s =
        .next (s.modPort p fun pt => { pt with code := some b, ack := true, data := {} }).advanceCaptures) ∧
    (∀ c, (s.port p).frame = .write → (s.port p).code = some c → c ≠ 0x3B → (s.port p).params.length < 128 →
      exec (.writeDataByte p b) s =
        .next (s.modPort p fun pt => { pt with params := pt.params ++ [b], ack := true }).advanceCaptures) ∧
    ∀ c, (s.port p).frame = .write → (s.port p).code = some c → c ≠ 0x3B → (s.port p).params.length = 128 →
      exec (.writeDataByte p b) s = .next (s.modPort p fun pt =>
        { pt with
          frame := .ignoring, ack := false, errors := min (pt.errors + 1) 65535
          flags := pt.flags ||| Notice.mask .portErr }).advanceCaptures

/-- READ_DATA_BYTE. In IDLE and IGNORING the part sends nothing and nothing else changes (R158). In a read frame (R161, R162) it
sends status, length and the bytes of the reply in order, then 0x00; a frame answered
PENDING gets status 9, length 0 and then 0x00. The reply is not consumed. -/
def Obligations.ReadByteSendsTheReply : Prop :=
  ∀ (p : PortId) (s : State), s.resetPin = false →
    ((s.port p).frame = .idle ∨ (s.port p).frame = .ignoring →
      exec (.readDataByte p) s = .next (s.modPort p fun pt => { pt with sent := none }).advanceCaptures) ∧
    ((s.port p).frame = .read → exec (.readDataByte p) s = .next (s.modPort p fun pt =>
      { pt with
        readIndex := pt.readIndex + 1
        sent := some
          (match pt.readIndex with
          | 0 => if pt.readPending then 9 else BitVec.ofNat 8 pt.reply.status.code
          | 1 => if pt.readPending then 0 else BitVec.ofNat 8 pt.reply.payload.length
          | k + 2 => if pt.readPending then 0 else pt.reply.payload.getD k 0) }).advanceCaptures)

/-- PORT_STOP and PORT_RESTART at the end of a write frame take the command the frame carries, exactly as the command's own row
does (R158, R160, R176); the port is then IDLE, or awaits an address byte. -/
def Obligations.FrameEndTakesItsCommand : Prop :=
  ∀ (c : Instr) (p : PortId) (code : Byte) (params : List Byte) (s : State), frameOf c = some (p, code, params) →
    s.ready p → (s.port p).frame = .write → (s.port p).code = some code → (s.port p).params = params →
    ∃ t, exec c s = .next t ∧
      exec (.portStop p) s = .next (t.modPort p fun pt => { pt with frame := .idle, awaiting := false }) ∧
      (∀ e, e = Instr.portRestart p ∨ e = Instr.portStart p →
        exec e s = .next (t.modPort p fun pt =>
          { pt with
            frame := .idle, awaiting := true, frameAddr := (t.portCfg p).addr, frameMask := (t.portCfg p).mask }))

/-- HOLD_TIMER_EXPIRY with the cause still present (R163, R162, R149): the port error count rises, PORT_ERR is raised on this
port, and the byte is handled: a read gets PENDING, a write address or a DATA byte is refused (a DATA byte whose operation has
left FEEDING with BAD_COMMAND: the model's choice, notes/assumptions/15.md). -/
def Obligations.HoldExpiryIsAPortError : Prop :=
  ∀ (p : PortId) (cause : HoldCause) (s : State), s.resetPin = false → (s.port p).frame = .holding cause →
    exec (.holdTimerExpiry p) s = .next (s.modPort p fun pt =>
      let e := { pt with
        errors := min (pt.errors + 1) 65535, flags := pt.flags ||| Notice.mask .portErr, hold := .stopped }
      match cause with
      | .readAddress =>
        { e with frame := .read, ack := true, readIndex := 0, readPending := true, code := none, params := [], data := {} }
      | .writeAddress => { e with frame := .ignoring, ack := false }
      | .dataByte _ _ =>
        { e with
          frame := .ignoring, ack := false
          data := { pt.data with
            high := none
            refusal := some (pt.data.refusal.getD (if s.feeding then .busy else .badCommand)) } }).advanceCaptures

/-- REPLY_READY (R162, R163): the reply becomes whole with status OK, its state READY, and a hold that waited for it ends. That the
records still to capture are all captured by this event, from the state it finds, is the model's choice
(notes/assumptions/5.md). -/
def Obligations.ReplyReadyCompletesTheReply : Prop :=
  ∀ (p : PortId) (q : Prep) (s : State), s.resetPin = false → (s.port p).prep = some q →
    exec (.replyReady p) s = .next (s.modPort p fun pt =>
      let r := { pt with
        prep := none, reply := { status := .ok, payload := q.bytes ++ q.todo.flatMap s.captureBytes ++ q.tail } }
      match pt.frame with
      | .holding .readAddress =>
        { r with
          frame := .read, ack := true, hold := .stopped, readIndex := 0, readPending := false, code := none, params := []
          data := {} }
      | .holding .writeAddress =>
        { r with
          frame := .write, ack := true, hold := .stopped, readIndex := 0, readPending := false, code := none, params := []
          data := {} }
      | _ => r).advanceCaptures

/-- The checks every command passes first (R160): a command not allowed on its port is refused with BAD_COMMAND, a RUN-only
command taken while UNCONFIGURED with NOT_READY, and nothing outside the port changes. At the end of a write frame a code outside
the command table is refused with BAD_COMMAND, and a wrong number of parameter bytes with BAD_PARAM (R176), but with BUSY,
BAD_COMMAND or LOCKED where the block's state refuses the command first (the model's reading, notes/assumptions/16.md). -/
def Obligations.CommandChecksComeFirst : Prop :=
  (∀ (c : Instr) (p : PortId) (code : Byte) (params : List Byte) (s : State), frameOf c = some (p, code, params) → s.ready p →
    (p ∉ portsOfCode code → exec c s = .next (s.replied p { status := .badCommand }).advanceCaptures) ∧
      (p ∈ portsOfCode code → runOnlyCode code = true → s.mode = .unconfigured →
        exec c s = .next (s.replied p { status := .notReady }).advanceCaptures)) ∧
  ∀ (p : PortId) (code : Byte) (s : State), s.ready p → (s.port p).frame = .write → (s.port p).code = some code →
    let ended := fun (status : StatusCode) =>
      exec (.portStop p) s = .next
          ((s.replied p { status := status }).modPort p fun pt => { pt with frame := .idle, awaiting := false }).advanceCaptures ∧
        ∀ e, e = Instr.portRestart p ∨ e = Instr.portStart p →
          exec e s = .next ((s.replied p { status := status }).modPort p fun pt =>
            { pt with
              frame := .idle, awaiting := true, frameAddr := (s.portCfg p).addr
              frameMask := (s.portCfg p).mask }).advanceCaptures
    (code.toNat ∉ commandCodes → ended .badCommand) ∧
    (code.toNat ∈ commandCodes → code ≠ 0x3B → p ∉ portsOfCode code → ended .badCommand) ∧
    (code.toNat ∈ commandCodes → code ≠ 0x3B → p ∈ portsOfCode code → runOnlyCode code = true → s.mode = .unconfigured →
      ended .notReady) ∧
    (p ∈ portsOfCode code → (runOnlyCode code = true → s.mode = .run) →
      (∃ n, paramCount code = some n ∧ (s.port p).params.length ≠ n) ∨ code = 0x50 ∧ (s.port p).params.length < 3 →
      let n := code.toNat
      ended
        (if (0x32 ≤ n ∧ n ≤ 0x39 ∨ n = 0x3D) ∧ s.eng.op ≠ none then .busy
        else if n = 0x3C ∧ (s.eng.op.map fun o => o.kind.isRead) ≠ some true then .badCommand
        else if (n = 0x50 ∨ n = 0x52) ∧ s.mode = .run then .locked
        else .badParam))

/-! ## Status, notices and queries (chapter 8, R15–R18) -/

/-- READ_STATUS (R164, R176): 37 bytes formed whole at the take, and nothing else changes: identification, mode and this port; the
Window Engine; the alarm list, with 0xFF beyond its count; the weather summary; the four lines. -/
def Obligations.ReadStatusReportsThePart : Prop :=
  ∀ (p : PortId) (s : State), s.ready p →
    let e := s.eng
    let count := e.fifo.length
    ∃ alarms : List Byte,
      exec (.readStatus p) s = .next (s.replied p
        { status := .ok
          payload :=
            [0x41, 0x01, BitVec.ofNat 8 s.mode.code] ++ bytes16 (s.port p).flags.toNat ++
            bytes16 (s.portCfg p).enables.toNat ++ bytes16 (s.port p).errors ++
            ([match e.op with | none => 0 | some o => if o.feeding then 2 else 1,
              match e.op with | none => 0 | some o => o.kind.code,
              e.outcome.code, e.written, e.skipped, e.refused, e.remaining, count,
              (if count = 0 then 0 else 1) + (if count < 8 then 0 else 2) + (if count = 16 then 4 else 0),
              e.window.xs, e.window.xe, e.window.ys, e.window.ye,
              (if e.window.mv then 1 else 0) + (if e.window.mx then 2 else 0) +
                (if e.window.my then 4 else 0)].map (BitVec.ofNat 8)) ++
            alarms ++
            ([(if s.wx.live then 1 else 0) + (if s.wx.gate then 2 else 0) + 4 * s.wx.storm.code + 16 * s.wx.rain.code,
              (s.mline .a).power.code + 4 * (s.dline .a).state.code,
              (s.mline .b).power.code + 4 * (s.dline .b).state.code,
              (s.mline .c).power.code + 4 * (s.dline .c).state.code,
              (s.mline .d).power.code + 4 * (s.dline .d).state.code].map (BitVec.ofNat 8)) }).advanceCaptures ∧
      alarms.length = 9 ∧ alarms.head? = some (BitVec.ofNat 8 s.alarms.length) ∧
      ∀ j, j < 8 → alarms[j + 1]? = some (match s.alarms[j]? with | some z => BitVec.ofNat 8 z.val | none => 0xFF)

/-- ACK_NOTICE (R167): the port clears each of its own flags whose mask bit is 1 and answers with the flags before and after;
the other ports' flags stand; the attention line follows the flags and their enables. -/
def Obligations.AckNoticeClearsItsOwnFlags : Prop :=
  ∀ (p : PortId) (mask : Word16) (s : State), s.ready p →
    ∃ t, exec (.ackNotice p mask) s = .next t ∧
      t = ((s.modPort p fun pt => { pt with flags := pt.flags &&& ~~~mask }).replied p
        { status := .ok
          payload := bytes16 (s.port p).flags.toNat ++ bytes16 ((s.port p).flags &&& ~~~mask).toNat }).advanceCaptures ∧
      (∀ k : Notice, (t.port p).notice k = ((s.port p).notice k && !mask.getLsbD k.bitIndex)) ∧
      (∀ q, q ≠ p → (t.port q).flags = (s.port q).flags) ∧
      ∀ q, t.attention q = decide ((t.port q).flags &&& (t.portCfg q).enables ≠ 0)

/-- The four queries (R18, R66, R88, R162, R165): the reply is emptied and becomes PREPARING, with the records to capture in
order. QUERY_VENTS lists up to fifteen of the selected slots from the start slot on, then the next slot or 0xFF. -/
def Obligations.QueriesPrepareTheirRecords : Prop :=
  ∀ (p : PortId) (s : State), s.ready p →
    exec (.queryZones p) s =
      .next (s.preparing p [.alarmList, .zone 0, .zone 1, .zone 2, .zone 3, .zone 4, .zone 5, .zone 6, .zone 7]
        []).advanceCaptures ∧
    exec (.queryWeather p) s = .next (s.preparing p [.weather] []).advanceCaptures ∧
    exec (.queryLines p) s = .next (s.preparing p [.line .a, .line .b, .line .c, .line .d] []).advanceCaptures ∧
    ∀ (sel mask : Word16) (start : Byte),
      let chosen := (s.select sel mask).filter fun i => decide (start.toNat ≤ i.val)
      exec (.queryVents p sel mask start) s =
        .next (s.preparing p ((chosen.take 15).map Capture.vent)
          [match chosen[15]? with | some i => BitVec.ofNat 8 i.val | none => 0xFF]).advanceCaptures

/-- What a query captures (R17, R66, R88, R114, R135, R165, R175, R176): the lengths of the records, and the bytes of each. Times
remaining are in tenths, rounded up (the model's choice, notes/assumptions/8.md), and a line reset's in milliseconds. -/
def Obligations.QueryRecordsReadTheState : Prop :=
  ∀ s : State,
    (∀ c, (s.captureBytes c).length =
      match c with | .vent _ => 8 | .alarmList => 9 | .zone _ => 13 | .weather => 17 | .line _ => 16) ∧
    (∀ i, s.captureBytes (.vent i) =
      [BitVec.ofNat 8 i.val] ++ bytes16 ((s.slot i).target.getD 0xFFFE) ++ bytes16 ((s.slot i).position.getD 0xFFFE) ++
        [(s.slot i).flags] ++
        [BitVec.ofNat 8 ((s.slot i).motion.code + 8 * (s.slot i).fault.code + 64 * bit (s.slot i).permit +
            128 * bit (s.slot i).bms.isSome),
          BitVec.ofNat 8 ((s.slot i).source.code + 4 * (s.slot i).windClass.code + 16 * (s.slot i).link.code)]) ∧
    (∀ z, s.captureBytes (.zone z) =
      [BitVec.ofNat 8 z.val,
        BitVec.ofNat 8 ((s.zone z).action.code + 4 * (s.zone z).status.code + 16 * bit (s.zone z).latch +
          32 * (s.zone z).timer.code),
        BitVec.ofNat 8 (s.zone z).override.code] ++ bytes16 (s.zoneCfg z).areq ++ bytes24 (s.zone z).avail ++
        bytes24 (s.zone z).conf ++ bytes16 (((s.zone z).timer.left + 99) / 100)) ∧
    ((s.captureBytes .alarmList)[0]? = some (BitVec.ofNat 8 s.alarms.length) ∧
      ∀ j, j < 8 → (s.captureBytes .alarmList)[j + 1]? =
        some (match s.alarms[j]? with | some z => BitVec.ofNat 8 z.val | none => 0xFF)) ∧
    (∀ g, (∀ j : Fin 8, s.wx.ring[j] ≤ g) → (∃ j : Fin 8, s.wx.ring[j] = g) → s.captureBytes .weather =
      [BitVec.ofNat 8 (bit s.wx.live + 2 * bit s.wx.gate + 4 * s.wx.storm.code + 16 * s.wx.rain.code)] ++
        bytes16 s.wx.sdir ++ bytes16 s.wx.sv ++ bytes16 g ++ [BitVec.ofNat 8 s.wx.rainCount] ++
        bytes16 ((s.wx.stale.left + 99) / 100) ++ bytes16 s.wx.last.dir ++ bytes16 s.wx.last.speed ++
        [BitVec.ofNat 8 (bit s.wx.last.rain + 2 * bit s.wx.last.held + 4 * bit s.wx.last.received)] ++
        bytes16 s.wx.errors) ∧
    ∀ l, let m := s.mline l
      let d := s.dline l
      let waiting := fun c : Fin 3 => (m.queue.filter fun i => decide ((s.slot i).cls = some c)).length
      let members := fun k : Link => (allSlots.filter fun i =>
        decide ((s.vent i).mapped = true ∧ (s.vent i).line = l ∧ (s.slot i).link = k)).length
      let flying := d.flight.filter fun f => decide (f.phase ≠ .ended)
      s.captureBytes (.line l) =
        [m.power.code + 4 * d.state.code, if m.fireLimit then (s.lineCfg l).kFire else (s.lineCfg l).kNorm, m.holders.length,
            waiting 0, waiting 1, waiting 2, m.preempting].map (BitVec.ofNat 8) ++
          bytes16 d.reset.left ++
          [d.failures, d.queue.length, (match flying with | some f => f.trans.kind | none => 0xFF),
            (match flying.bind (fun f => f.trans.slot?) with | some i => i.val | none => 0xFF),
            members .offline, members .profiling, members .online].map (BitVec.ofNat 8)

/-- Selectors (R15, R16): the mapped slots whose tag agrees with the match under the mask, or with mask 0 those that do not
refuse broadcasts, in slot order. Policies (R33, R103): select 0 grants every permission; 1–3 name a POLICY record, whose flag
for the slot's vent class decides. -/
def Obligations.SelectorsAndPolicies : Prop :=
  ∀ s : State,
    (∀ sel mask, (s.select sel mask).Pairwise (fun i j => i < j) ∧
      ∀ i, i ∈ s.select sel mask ↔ (s.vent i).mapped = true ∧
        (mask = 0 → (s.vent i).bcastRefuse = false) ∧ (mask ≠ 0 → (s.vent i).tag &&& mask = sel &&& mask)) ∧
    ∀ p i,
      ((s.portCfg p).policy = 0 → s.claimAllowed p i = true ∧ s.clearAllowed p i = true) ∧
      ∀ j : Fin 3, (s.portCfg p).policy.val = j.val + 1 →
        let q := s.tables.policies[j]
        s.claimAllowed p i = (match (s.vent i).cls with | .sv => q.claimSv | .cw => q.claimCw | .iw => q.claimIw) ∧
          s.clearAllowed p i = (match (s.vent i).cls with | .sv => q.clearSv | .cw => q.clearCw | .iw => q.clearIw)

/-! ## Fire plans (chapter 3) -/

/-- ALARM, CLEAR and CLEAR_ALL (R43–R45, R47): a zone number above 7 is refused with BAD_PARAM; a command that leaves the list
as it was is answered OK and does nothing else; while UNCONFIGURED a change records the list and raises ALARM, and no more. -/
def Obligations.AlarmCommandsOutsideRun : Prop :=
  ∀ (zone : Byte) (s : State), s.ready .f →
    (7 < zone.toNat →
      exec (.alarm .f zone) s = .next (s.replied .f { status := .badParam }).advanceCaptures ∧
        exec (.clear .f zone) s = .next (s.replied .f { status := .badParam }).advanceCaptures) ∧
    (∀ z : ZoneId, z.val = zone.toNat →
      (z ∈ s.alarms → exec (.alarm .f zone) s = .next (s.replied .f {}).advanceCaptures) ∧
      (z ∉ s.alarms → exec (.clear .f zone) s = .next (s.replied .f {}).advanceCaptures) ∧
      (s.mode = .unconfigured → z ∉ s.alarms → exec (.alarm .f zone) s =
        .next ((({ s with alarms := s.alarms ++ [z] } : State).raiseAll .alarm).replied .f {}).advanceCaptures) ∧
      (s.mode = .unconfigured → z ∈ s.alarms → exec (.clear .f zone) s =
        .next ((({ s with alarms := s.alarms.erase z } : State).raiseAll .alarm).replied .f {}).advanceCaptures)) ∧
    (s.alarms = [] → exec (.clearAll .f) s = .next (s.replied .f {}).advanceCaptures) ∧
    (s.mode = .unconfigured → s.alarms ≠ [] → exec (.clearAll .f) s =
      .next ((({ s with alarms := [] } : State).raiseAll .alarm).replied .f {}).advanceCaptures)

/-- A change of the alarm list in RUN (R43–R46, R51, R53, R55, R58, R64, R65): the list is recorded, the permit limit follows a
change between empty and not empty, and every zone takes the action the new list gives it, with its timer, latch, status and
sums; the members of a zone whose action or latch changed take their new fire values and are recomposed. `u` is the state when
the areas are taken: the list and the limit have changed already. First the two sums: the free areas of a zone's usable SV
members that are not WINDWARD, and its SV members' free areas in proportion to their known positions. -/
def Obligations.AlarmListChangeInRun : Prop :=
  (∀ (s : State) (z : ZoneId),
    let sv := allSlots.filter fun i => decide ((s.vent i).mapped = true ∧ (s.vent i).zone = z ∧ (s.vent i).cls = .sv)
    s.availOf z = ((sv.filter fun i => decide ((s.slot i).link = .online ∧ (s.slot i).motion ≠ .fault ∧
      (s.slot i).windClass ≠ .windward)).map fun i => (s.vent i).freeArea).sum ∧
    s.confOf z = (sv.map fun i => (s.vent i).freeArea * (s.slot i).position.getD 0 / 1000).sum) ∧
  ∀ (c : Instr) (new : List ZoneId) (s : State), s.ready .f → s.mode = .run →
    ((∃ z : ZoneId, z ∉ s.alarms ∧ c = .alarm .f (BitVec.ofNat 8 z.val) ∧ new = s.alarms ++ [z]) ∨
      (∃ z : ZoneId, z ∈ s.alarms ∧ c = .clear .f (BitVec.ofNat 8 z.val) ∧ new = s.alarms.erase z) ∨
      s.alarms ≠ [] ∧ c = .clearAll .f ∧ new = []) →
    ∃ t u, exec c s = .next t ∧
      u = (if (s.alarms = [] ↔ new = []) then { s with alarms := new }
        else ({ s with alarms := new } : State).announceLimit (decide (new ≠ []))) ∧
      Keeps Slot.unfired id { s.replied .f {} with alarms := new, zones := t.zones, motion := t.motion } t ∧
      (∀ l, (t.mline l).fireLimit =
        if (s.alarms = [] ↔ new = []) then (s.mline l).fireLimit else decide (new ≠ [])) ∧
      (∀ z, let old := s.zone z
        let a := s.deriveAction new z
        t.zone z =
          if a = old.action then old
          else if a = .exhaust then
            { old with
              action := .exhaust, timer := .running ((s.zoneCfg z).deadline * 1000), avail := u.availOf z, conf := u.confOf z
              latch := decide (u.availOf z < (s.zoneCfg z).areq)
              status := if (s.zoneCfg z).areq ≤ u.confOf z then .confirmed else .opening }
          else if old.action = .exhaust then { old with action := a, timer := .stopped, latch := false, status := .quiet }
          else { old with action := a }) ∧
      (∀ i, let z := (s.vent i).zone
        if (s.vent i).mapped = true ∧ ((t.zone z).action ≠ (s.zone z).action ∨ (t.zone z).latch ≠ (s.zone z).latch) then
          (t.slot i).fire =
              fireValue (t.zone z).action (s.vent i).cls (s.zoneCfg z).windSelect (t.zone z).latch (s.slot i).windClass ∧
            ((t.slot i).source, (t.slot i).target) = t.composedOf i
        else (t.slot i).fire = (s.slot i).fire ∧ (t.slot i).source = (s.slot i).source ∧
          (t.slot i).target = (s.slot i).target) ∧
      (∀ p, (t.port p).notice .alarm = true) ∧
      ((∃ z, (t.zone z).action ≠ (s.zone z).action ∨ (t.zone z).status ≠ (s.zone z).status ∨
        (t.zone z).latch ≠ (s.zone z).latch) → ∀ p, (t.port p).notice .zone = true)

/-- The action of a zone (R50): the entry of the first alarm on the list, in list order, whose plan row holds one that is not
NONE for the zone; NONE when there is no such alarm. -/
def Obligations.ZoneActionFollowsTheAlarmList : Prop :=
  ∀ (s : State) (z : ZoneId),
    (∀ alarms, (∀ a ∈ alarms, s.planAt a z = .none) → s.deriveAction alarms z = .none) ∧
      ∀ first a rest, (∀ b ∈ first, s.planAt b z = .none) → s.planAt a z ≠ .none →
        s.deriveAction (first ++ a :: rest) z = s.planAt a z

/-- DEADLINE_EXPIRY (R60, R61, R65): the timer is EXPIRED; an EXHAUST zone is CONFIRMED if its confirmed area reaches its required
area and in SHORTFALL otherwise, and a change of status raises ZONE. -/
def Obligations.DeadlineExpiryDecidesTheStatus : Prop :=
  ∀ (z : ZoneId) (ms : Nat) (s : State), s.resetPin = false → (s.zone z).timer = .running ms →
    let st :=
      if (s.zone z).action ≠ .exhaust then (s.zone z).status
      else if (s.zoneCfg z).areq ≤ (s.zone z).conf then .confirmed
      else .shortfall
    exec (.deadlineExpiry z) s =
      .next ((s.modZone z fun zn => { zn with timer := .expired, status := st }).raiseIf
        (decide (st ≠ (s.zone z).status)) .zone).advanceCaptures

/-! ## Demand layers (chapter 2) -/

/-- The fire value (R29, R30) and the composed pair (R19, R20): an override stands above the fire layer, that above the BMS entry
and the rest position, which alone are limited by the weather ceiling. In RUN every step keeps each mapped slot's fire value,
source and target at what its layers give (R20, R21, R31), so a target from BMS or REST never exceeds the ceiling. -/
def Obligations.LayersComposeInOrder : Prop :=
  (∀ c ws latch w, fireValue .none c ws latch w = .absent ∧
    fireValue .exhaust .sv ws latch w = (if ws = true ∧ latch = false ∧ w = .windward then .shut else .full) ∧
    fireValue .exhaust .cw ws latch w = .shut ∧ fireValue .exhaust .iw ws latch w = .full ∧
    fireValue .inlet c ws latch w = (if c = .iw then .full else .shut) ∧ fireValue .close c ws latch w = .shut) ∧
  (∀ (v : VentCfg) (r : Slot),
    composed .open v r = (.ovr, some 1000) ∧ composed .close v r = (.ovr, some 0) ∧ composed .hold v r = (.ovr, r.hold) ∧
    (r.fire = .full → composed .auto v r = (.fire, some 1000)) ∧
    (r.fire = .shut → composed .auto v r = (.fire, some 0)) ∧
    (∀ b, r.fire = .absent → r.bms = some b → composed .auto v r = (.bms, some (min b r.ceiling))) ∧
    (r.fire = .absent → r.bms = none → composed .auto v r = (.rest, some (min v.rest r.ceiling)))) ∧
  ∀ s t : State, s.ComposedOk → step s = .next t →
    t.ComposedOk ∧ (t.mode = .run → ∀ i, (t.vent i).mapped = true → (t.slot i).source = .bms ∨ (t.slot i).source = .rest →
      ∃ x, (t.slot i).target = some x ∧ x ≤ (t.slot i).ceiling)

/-- CLAIM and RELEASE (R32–R36): every selected slot that the policy allows has its BMS entry set to the value, at most 1000, or
cleared, and is recomposed; the reply counts applied and refused, DENIED included (the model's reading,
notes/assumptions/22.md); nothing else changes but what MOTION does with the new targets. -/
def Obligations.ClaimAndReleaseWriteTheSelection : Prop :=
  ∀ (c : Instr) (sel mask : Word16) (v : Option Nat) (s : State), s.ready .b → s.mode = .run →
    ((∃ value : Word16, c = .claim .b sel mask value ∧ v = some (min value.toNat 1000)) ∨ c = .release .b sel mask ∧ v = none) →
    let ok := (s.select sel mask).filter fun i => s.claimAllowed .b i
    let no := (s.select sel mask).filter fun i => !s.claimAllowed .b i
    ∃ t, exec c s = .next t ∧
      Keeps (fun r => { r.untargeted with bms := none }) id
        (s.replied .b
          { status := if no = [] then .ok else if ok = [] then .denied else .part
            payload := [BitVec.ofNat 8 ok.length, BitVec.ofNat 8 no.length] }) t ∧
      (∀ i ∈ ok, (t.slot i).bms = v ∧ ((t.slot i).source, (t.slot i).target) = t.composedOf i) ∧
      ∀ i, i ∉ ok → (t.slot i).bms = (s.slot i).bms ∧ (t.slot i).source = (s.slot i).source ∧
        (t.slot i).target = (s.slot i).target

/-- OVERRIDE (R24, R25, R28): a mode above 3 is refused; otherwise each zone of the mask takes the mode. In RUN every member of a
zone that changes loses or takes its hold capture, has its fault cleared, and is recomposed; while UNCONFIGURED only the modes
change. OVERRIDE is raised if a zone changed. -/
def Obligations.OverrideSetsTheZones : Prop :=
  ∀ (zoneMask mode : Byte) (s : State), s.ready .o →
    (3 < mode.toNat → exec (.override .o zoneMask mode) s = .next (s.replied .o { status := .badParam }).advanceCaptures) ∧
    ∀ m : OverrideMode, m.code = mode.toNat →
      let changes := fun z : ZoneId => zoneMask.getLsbD z.val = true ∧ (s.zone z).override ≠ m
      ∃ t, exec (.override .o zoneMask mode) s = .next t ∧
        Keeps Slot.unheld (fun zn => { zn.unsummed with override := .auto }) (s.replied .o {}) t ∧
        (∀ z, (t.zone z).override = if zoneMask.getLsbD z.val then m else (s.zone z).override) ∧
        ((∃ z, changes z) → ∀ p, (t.port p).notice .override = true) ∧
        (s.mode = .unconfigured → t.slots = s.slots ∧
          ∀ z, t.zone z = { s.zone z with override := (t.zone z).override }) ∧
        (s.mode = .run → ∀ i, (s.vent i).mapped = true →
          (changes (s.vent i).zone →
            (t.slot i).hold =
                (if m = .hold then (s.slot i).position
                else if (s.zone (s.vent i).zone).override = .hold then none
                else (s.slot i).hold) ∧
              ((s.slot i).motion = .fault → (t.slot i).fault = .none ∧ (t.slot i).motion ≠ .fault) ∧
              ((t.slot i).source, (t.slot i).target) = t.composedOf i) ∧
          (¬ changes (s.vent i).zone →
            (t.slot i).hold = (s.slot i).hold ∧ (t.slot i).fault = (s.slot i).fault ∧
              (t.slot i).source = (s.slot i).source ∧ (t.slot i).target = (s.slot i).target))

/-! ## Motion control (chapter 5) -/

/-- Evaluation (R90): a slot needs a move exactly when it is mapped, ONLINE and not in FAULT, its target and position are known,
their distance is above the deadband and no end flag agrees with the target; the move opens when the target is above the
position. The permit class (R91) is 0 for OVR or FIRE, 1 for another closing and 2 for another opening. -/
def Obligations.EvaluationAndPermitClass : Prop :=
  (∀ (s : State) (i : SlotId) (d : Direction), s.evaluate i = some d ↔
    (s.vent i).mapped = true ∧ (s.slot i).link = .online ∧ (s.slot i).motion ≠ .fault ∧
      ∃ target position, (s.slot i).target = some target ∧ (s.slot i).position = some position ∧
        (s.vent i).deadband < ((target : Int) - position).natAbs ∧
        ¬ ((s.slot i).atOpen = true ∧ target = 1000) ∧ ¬ ((s.slot i).atClosed = true ∧ target = 0) ∧
        d = if position < target then .opening else .closing) ∧
  ∀ (src : Source) (d : Direction),
    permitClass src d = if src = .ovr ∨ src = .fire then 0 else if d = .closing then 1 else 2

/-- Permits (R106–R108). No step raises the permits held on a line above its limit or above K_fire (R107), where a part
that is UNCONFIGURED stands as a reset leaves it. Then what MOTION does on the way, one operation at a time: what settling a line
leaves; a queue entry, with the next entry time, behind every entry of its class; a grant to the head, again and again until a
condition fails; and a preemption of the class-2 holder granted last. One whose MOVE is not sent gives its permit to the class-0
head at once; any other gets a STOP. -/
def Obligations.GrantsNeverPassTheLimit : Prop :=
  (∀ (s t : State) (l : LineId), step s = .next t →
    (t.mline l).holders.length ≤ max (s.mline l).holders.length (t.limit l)) ∧
  (∀ s t : State, s.FreshOk → step s = .next t →
    (∀ l, (s.lineCfg l).kNorm ≤ (s.lineCfg l).kFire ∧ (s.mline l).holders.length ≤ (s.lineCfg l).kFire) →
    ∀ l, (t.lineCfg l).kNorm ≤ (t.lineCfg l).kFire ∧ (t.mline l).holders.length ≤ (t.lineCfg l).kFire) ∧
  (∀ (l : LineId) (s : State), s.QueueOk →
    let u := (if (s.mline l).power = .standby ∧ ∃ i ∈ (s.mline l).queue, (s.slot i).cls = some 0 ∨ (s.slot i).cls = some 1 then
      s.startWaking l else s).grantAll l
    let urgent := ((u.mline l).queue.filter fun i => decide ((u.slot i).cls = some 0)).length
    let due := u.limit l ≤ (u.mline l).holders.length ∧ (u.mline l).preempting < urgent
    ((s.settle l).mline l).holders.length ≤ max (s.mline l).holders.length (s.limit l) ∧ (s.settle l).limit l = s.limit l ∧
      ((u.mline l).queue = [] ∨ (u.mline l).power ≠ .active ∨ (u.dline l).state ≠ .run ∨
        u.limit l ≤ (u.mline l).holders.length) ∧
      (¬ due ∨ u.preemptable l = none → s.settle l = u) ∧
      ∀ i, due → u.preemptable l = some i → ((u.preempt l i).mline l).holders.length < (u.preempt l i).limit l ∨
        (u.preempt l i).urgent l ≤ ((u.preempt l i).mline l).preempting → s.settle l = u.preempt l i) ∧
  (∀ (i : SlotId) (d : Direction) (s : State),
    let l := (s.vent i).line
    let n := (s.mline l).entryCount + 1
    let k := permitClass (s.slot i).source d
    n < 4294967295 → i ∉ (s.mline l).queue →
    ∃ a b, (s.mline l).queue = a ++ b ∧
      (s.enterQueue i d =
        (s.modSlot i fun r => { r with motion := .queued, entryTime := some n, dir := some d, cls := some k }).modMline l fun m =>
          { m with entryCount := n, queue := a ++ i :: b }) ∧
      (∀ j ∈ a, (s.slot j).cls.getD 0 < k ∨ (s.slot j).cls.getD 0 = k ∧ (s.slot j).entryTime.getD 0 ≤ n) ∧
      ∀ j, b.head? = some j → k < (s.slot j).cls.getD 0 ∨ (s.slot j).cls.getD 0 = k ∧ n < (s.slot j).entryTime.getD 0) ∧
  (∀ (l : LineId) (i : SlotId) (rest : List SlotId) (s : State), s.QueueOk → (s.mline l).queue = i :: rest →
    (s.mline l).holders.length < s.limit l → (s.mline l).power = .active → (s.dline l).state = .run →
    let t := s.grant l i
    s.grantAll l = t.grantAll l ∧
      t.mline l = { s.mline l with queue := rest, holders := (s.mline l).holders ++ [i] } ∧
      t.slot i =
        { s.slot i with motion := .starting, permit := true, entryTime := none, stoppedShort := 0, deferred := false } ∧
      ∀ x, s.mode = .run → (s.slot i).target = some x →
        t.placedOrFlying l (fun y => decide (y = .move i x (decide ((s.slot i).cls = some 0)))) = true) ∧
  (∀ (l : LineId) (s : State),
    let may := fun i : SlotId =>
      (s.slot i).cls = some 2 ∧ ((s.slot i).motion = .starting ∨ (s.slot i).motion = .moving)
    (s.preemptable l = none ↔ ∀ i ∈ (s.mline l).holders, ¬ may i) ∧
      ∀ i, s.preemptable l = some i → may i ∧ ∃ a b, (s.mline l).holders = a ++ i :: b ∧ ∀ j ∈ b, ¬ may j) ∧
  ∀ (l : LineId) (i : SlotId) (s : State), s.mode = .run → (s.vent i).line = l → (s.dline l).state = .run →
    ((s.slot i).motion = .moving ∨ s.moveUnsent i = false →
      let t := s.preempt l i
      t.slot i = { s.slot i with motion := .stopping .preemption, travel := .stopped, poll := .stopped, dwell := .stopped } ∧
        t.mline l = { s.mline l with preempting := (s.mline l).preempting + 1 } ∧
        t.placedOrFlying l (fun x => decide (x = .stop i)) = true ∧
        (∀ x ∈ (t.dline l).queue, x.isMoveOf i = false) ∧
        ∀ f, (t.dline l).flight = some f → f.trans.isMoveOf i = true → f.withdrawn = true) ∧
    ∀ (j : SlotId) (rest : List SlotId), s.QueueOk → (s.mline l).holders.Nodup → i ∈ (s.mline l).holders →
      (s.slot i).permit = true → (s.slot i).motion = .starting → s.moveUnsent i = true →
      (s.slot i).source ≠ .ovr → (s.slot i).source ≠ .fire → (s.mline l).queue = j :: rest → (s.slot j).cls = some 0 →
      (s.mline l).holders.length = s.limit l → (s.mline l).power = .active →
      let t := s.preempt l i
      (t.mline l).holders = (s.mline l).holders.erase i ++ [j] ∧ (t.mline l).preempting = (s.mline l).preempting ∧
        (t.slot j).motion = .starting ∧ (t.slot j).permit = true ∧ (t.slot i).permit = false ∧
        (t.slot i).motion = if s.evaluate i = none then .idle else .queued

/-- FAULT_CLEAR (R102, R103): every selected slot in FAULT that the policy allows leaves FAULT with its code NONE; the reply counts
cleared and refused, DENIED included (the model's reading, notes/assumptions/22.md); every other slot keeps its fault code. A slot
cleared is DETACHED unless its link is ONLINE, and is then IDLE and evaluated: IDLE when it needs no move, and otherwise on the
way of its move: QUEUED, granted, or preempted after its grant by a class-0 slot cleared later in the same event. -/
def Obligations.FaultClearClearsTheSelection : Prop :=
  ∀ (p : PortId) (sel mask : Word16) (s : State), p = .o ∨ p = .b → s.ready p → s.mode = .run →
    let ok := (s.select sel mask).filter fun i => s.clearAllowed p i
    let no := (s.select sel mask).filter fun i => !s.clearAllowed p i
    let faulted := ok.filter fun i => decide ((s.slot i).motion = .fault)
    ∃ t, exec (.faultClear p sel mask) s = .next t ∧
      Keeps Slot.unfaulted Zone.unsummed
        (s.replied p
          { status := if no = [] then .ok else if ok = [] then .denied else .part
            payload := [BitVec.ofNat 8 faulted.length, BitVec.ofNat 8 no.length] }) t ∧
      (∀ i ∈ faulted, (t.slot i).fault = .none ∧ (t.slot i).motion ≠ .fault) ∧
      (∀ i, i ∉ faulted → (t.slot i).fault = (s.slot i).fault) ∧
      (s.QueueOk → ∀ i ∈ faulted, (s.slot i).link ≠ .online → (t.slot i).motion = .detached) ∧
      (s.QueueOk → s.PermitOk → s.AreasOk → ∀ i ∈ faulted, (s.slot i).link = .online →
        (t.evaluate i = none → (t.slot i).motion = .idle) ∧
        ∀ d, t.evaluate i = some d → (t.slot i).dir = some d ∧ (t.slot i).cls = some (permitClass (t.slot i).source d) ∧
          ((t.slot i).motion = .queued ∨ (t.slot i).motion = .starting ∨ (t.slot i).motion = .stopping .preemption))

/-- LINE_STANDBY and LINE_WAKE (R110–R112), for every line byte and every power state. A wake time of 0 makes the line ACTIVE at
once; what MOTION then grants is left open here. -/
def Obligations.LinePowerCommands : Prop :=
  ∀ (line : Byte) (s : State), s.ready .b → s.mode = .run →
    (3 < line.toNat →
      exec (.lineStandby .b line) s = .next (s.replied .b { status := .badParam }).advanceCaptures ∧
        exec (.lineWake .b line) s = .next (s.replied .b { status := .badParam }).advanceCaptures) ∧
    ∀ l : LineId, LineId.code l = line.toNat →
      let m := s.mline l
      let idle := m.holders = [] ∧ ∀ i ∈ m.queue, (s.slot i).cls = some 2
      (m.power = .active → idle → exec (.lineStandby .b line) s =
        .next (((s.modMline l fun m => { m with power := .standby, standbyDwell := .running 2000 }).raiseAll .line).replied .b
          {}).advanceCaptures) ∧
      (m.power = .waking ∨ m.power = .active ∧ ¬ idle →
        exec (.lineStandby .b line) s = .next (s.replied .b { status := .busy }).advanceCaptures) ∧
      (m.power = .standby → exec (.lineStandby .b line) s = .next (s.replied .b {}).advanceCaptures) ∧
      (m.power ≠ .standby → exec (.lineWake .b line) s = .next (s.replied .b {}).advanceCaptures) ∧
      (m.power = .standby → m.standbyDwell ≠ .stopped →
        exec (.lineWake .b line) s = .next (s.replied .b { status := .busy }).advanceCaptures) ∧
      (m.power = .standby → m.standbyDwell = .stopped → m.holders = [] → 0 < (s.lineCfg l).wakeTime →
        exec (.lineWake .b line) s =
          .next (((s.modMline l fun m =>
            { m with power := .waking, wake := .running ((s.lineCfg l).wakeTime * 100) }).raiseAll .line).replied .b
              {}).advanceCaptures) ∧
      (m.power = .standby → m.standbyDwell = .stopped → (s.lineCfg l).wakeTime = 0 →
        ∃ t, exec (.lineWake .b line) s = .next t ∧ Keeps Slot.still id (s.replied .b {}) t ∧
          (t.mline l).power = .active ∧ ∀ p, (t.port p).notice .line = true)

/-- STANDBY_DWELL_EXPIRY (R112) and WAKE_TIMER_EXPIRY (R111): the dwell stops; the line becomes ACTIVE, LINE is raised, and
the grants that follow are MOTION's; with no entry waiting there is none, and nothing else changes. -/
def Obligations.LinePowerTimers : Prop :=
  ∀ (l : LineId) (ms : Nat) (s : State), s.resetPin = false →
    ((s.mline l).standbyDwell = .running ms → exec (.standbyDwellExpiry l) s =
      .next (s.modMline l fun m => { m with standbyDwell := .stopped }).advanceCaptures) ∧
    ((s.mline l).wake = .running ms →
      ∃ t, exec (.wakeTimerExpiry l) s = .next t ∧ Keeps Slot.still id s t ∧ (t.mline l).power = .active ∧
        (t.mline l).wake = .stopped ∧ (∀ p, (t.port p).notice .line = true) ∧
        ((s.mline l).queue = [] → t =
          ((s.modMline l fun m => { m with power := .active, wake := .stopped }).raiseAll .line).advanceCaptures))

/-- POLL_TIMER_EXPIRY (R97), PROBE_TIMER_EXPIRY (R126) and IDLE_POLL_TIMER_EXPIRY (R128): the transaction is placed and the timer
starts again; no POLL-idle is placed for a slot that is MOVING. -/
def Obligations.SlotTimersPlaceTheirTransactions : Prop :=
  ∀ (i : SlotId) (ms : Nat) (s : State), s.resetPin = false →
    let l := (s.vent i).line
    ((s.slot i).poll = .running ms → exec (.pollTimerExpiry i) s =
      .next ((s.place l (.pollMoving i)).modSlot i fun r =>
        { r with poll := .running ((s.lineCfg l).movePoll * 100) }).advanceCaptures) ∧
    ((s.slot i).probe = .running ms → exec (.probeTimerExpiry i) s =
      .next ((s.place l (.probe i)).modSlot i fun r =>
        { r with probe := .running ((s.lineCfg l).probe * 1000) }).advanceCaptures) ∧
    ((s.slot i).idlePoll = .running ms → (s.slot i).motion ≠ .moving → exec (.idlePollTimerExpiry i) s =
      .next ((s.place l (.pollIdle i)).modSlot i fun r =>
        { r with idlePoll := .running ((s.lineCfg l).idlePoll * 1000) }).advanceCaptures) ∧
    ((s.slot i).idlePoll = .running ms → (s.slot i).motion = .moving → exec (.idlePollTimerExpiry i) s =
      .next (s.modSlot i fun r =>
        { r with idlePoll := .running ((s.lineCfg l).idlePoll * 1000) }).advanceCaptures)

/-- TRAVEL_TIMER_EXPIRY in MOVING (R93, R99): FAULT with TRAVEL_TIMEOUT, the permit released, the timers stopped, a STOP placed or
in flight whatever the last flags showed, and VENT_FAULT raised. That the direction recorded for the move is none afterwards is
the model's choice (notes/assumptions/7.md). -/
def Obligations.TravelTimeoutIsAFault : Prop :=
  ∀ (i : SlotId) (ms : Nat) (s : State), s.resetPin = false → s.mode = .run → s.QueueOk → (s.slot i).motion = .moving →
    (s.slot i).travel = .running ms → (s.dline (s.vent i).line).state = .run →
    ∃ t, exec (.travelTimerExpiry i) s = .next t ∧ Keeps Slot.unfaulted Zone.unsummed s t ∧
      (t.slot i).motion = .fault ∧ (t.slot i).fault = .travelTimeout ∧ (t.slot i).permit = false ∧ (t.slot i).cls = none ∧
      (t.slot i).dir = none ∧ (t.slot i).travel = .stopped ∧ (t.slot i).poll = .stopped ∧ (t.slot i).dwell = .stopped ∧
      t.placedOrFlying (s.vent i).line (fun x => decide (x = .stop i)) = true ∧
      ∀ p, (t.port p).notice .ventFault = true

/-- DWELL_TIMER_EXPIRY in DWELL (R101), then the target change event that COMP hands over (R21, R22), by motion state (R91, R92,
R94–R98, R100–R102). At the end of a dwell, if a move is needed the slot becomes STARTING with the permit it holds and its MOVE
is placed with the speed class of its permit class; otherwise the permit is released and it becomes IDLE. (No class-0 entry
waits: one could preempt the new move within the same event.) A target change with a MOVE sent and none needed recomputes the
class from the direction recorded (the model's choice, notes/assumptions/17.md). That a slot made IDLE has no direction recorded
and no deferred mark is the model's choice (notes/assumptions/7.md). IDLE and QUEUED are said for a line on which nothing can be
granted or preempted; what a grant and a preemption do is GrantsNeverPassTheLimit. -/
def Obligations.DwellEndsInAMoveOrARelease : Prop :=
  (∀ (i : SlotId) (ms : Nat) (s : State), s.resetPin = false → s.mode = .run → s.QueueOk → (s.slot i).motion = .dwell →
    (s.slot i).dwell = .running ms →
    let l := (s.vent i).line
    (∀ j ∈ (s.mline l).queue, (s.slot j).cls ≠ some 0) → (s.dline l).state = .run →
    ∃ t, exec (.dwellTimerExpiry i) s = .next t ∧ Keeps Slot.still id s t ∧ (t.slot i).dwell = .stopped ∧
      (∀ d target, s.evaluate i = some d → (s.slot i).target = some target →
        (t.slot i).motion = .starting ∧ (t.slot i).permit = (s.slot i).permit ∧ (t.slot i).dir = some d ∧
          (t.slot i).cls = some (permitClass (s.slot i).source d) ∧ (t.slot i).stoppedShort = 0 ∧
          t.placedOrFlying l (fun x =>
            decide (x = .move i target (decide (permitClass (s.slot i).source d = 0)))) = true) ∧
      (s.evaluate i = none → (t.slot i).motion = .idle ∧ (t.slot i).permit = false ∧ (t.slot i).cls = none ∧
        (t.slot i).travel = .stopped ∧ (t.slot i).poll = .stopped)) ∧
  (∀ (i : SlotId) (s : State), (s.vent i).mapped = true → s.mode = .run →
    (((s.slot i).source, (s.slot i).target) = s.composedOf i → s.recompose i = s) ∧
    (((s.slot i).source, (s.slot i).target) ≠ s.composedOf i → s.recompose i =
      (s.modSlot i fun r => { r with source := (s.composedOf i).1, target := (s.composedOf i).2 }).targetChange i)) ∧
  ∀ (i : SlotId) (s : State), s.mode = .run → s.QueueOk →
    let l := (s.vent i).line
    let r := s.slot i
    let cls := fun d : Direction => some (permitClass r.source d)
    let under := match (s.evaluate i).or r.dir with | some d => cls d | none => r.cls
    let withdrawn := fun t : State => (∀ x ∈ (t.dline l).queue, x.isMoveOf i = false) ∧
      ∀ f, (t.dline l).flight = some f → f.trans.isMoveOf i = true → f.withdrawn = true
    (r.motion = .detached ∨ (∃ k, r.motion = .stopping k) ∨ r.motion = .dwell ∨ r.motion = .fault → s.targetChange i = s) ∧
    (s.limit l ≤ (s.mline l).holders.length → (∀ j ∈ (s.mline l).holders, (s.slot j).cls ≠ some 2) →
      (s.mline l).power ≠ .standby →
      (r.motion = .idle → s.targetChange i = match s.evaluate i with | none => s | some d => s.enterQueue i d) ∧
      (r.motion = .queued → s.evaluate i = none → s.targetChange i =
        (s.modMline l fun m => { m with queue := m.queue.erase i }).modSlot i fun r =>
          { r with motion := .idle, entryTime := none, cls := none, dir := none, deferred := false }) ∧
      ∀ d, r.motion = .queued → s.evaluate i = some d →
        (r.cls = cls d → s.targetChange i = s.modSlot i fun r => { r with dir := some d }) ∧
        (r.cls ≠ cls d → ∃ a b, (s.mline l).queue.erase i = a ++ b ∧
          (s.targetChange i = (s.modSlot i fun r => { r with dir := some d, cls := cls d }).modMline l fun m =>
            { m with queue := a ++ i :: b }) ∧
          (∀ j ∈ a, (s.slot j).cls.getD 0 < permitClass r.source d ∨
            (s.slot j).cls.getD 0 = permitClass r.source d ∧ (s.slot j).entryTime.getD 0 ≤ r.entryTime.getD 0) ∧
          ∀ j, b.head? = some j → permitClass r.source d < (s.slot j).cls.getD 0 ∨
            (s.slot j).cls.getD 0 = permitClass r.source d ∧ r.entryTime.getD 0 < (s.slot j).entryTime.getD 0)) ∧
    ((s.dline l).state = .run → (∀ j ∈ (s.mline l).queue, (s.slot j).cls ≠ some 0) →
      let t := s.targetChange i
      (∀ d target, r.motion = .starting → s.moveUnsent i = true → s.evaluate i = some d → r.target = some target →
        t.slot i = { r with dir := some d, cls := cls d } ∧
          t.placedOrFlying l (fun x => decide (x = .move i target (decide (cls d = some 0)))) = true) ∧
      (r.motion = .starting → s.moveUnsent i = true → s.evaluate i = none → r.permit = true →
        (t.slot i).motion = .idle ∧ (t.slot i).permit = false ∧ (t.slot i).cls = none ∧ (t.slot i).dir = none ∧ withdrawn t) ∧
      (r.motion = .starting → s.moveUnsent i = false → t.slot i = { r with deferred := true, cls := under }) ∧
      (∀ d target, r.motion = .moving → s.evaluate i = some d → r.dir = some d → r.target = some target →
        t.slot i = { r with cls := cls d } ∧
          t.placedOrFlying l (fun x => decide (x = .move i target (decide (cls d = some 0)))) = true) ∧
      (r.motion = .moving → s.evaluate i = none ∨ s.evaluate i ≠ r.dir →
        t.slot i =
            { r with
              motion := .stopping (if s.evaluate i = none then .release else .reversal), travel := .stopped, poll := .stopped
              dwell := .stopped, cls := under } ∧
          t.mline l = s.mline l ∧ t.placedOrFlying l (fun x => decide (x = .stop i)) = true ∧ withdrawn t))

/-! ## Drive lines (chapter 6) -/

/-- The transaction queue (R118, R119): the next transaction is of the first kind in the order of R118 that is pending, and the
oldest of its kind; a placement joins the end, replaces a pending MOVE of the slot, or is dropped; one placed onto an idle
line is sent at once (notes/assumptions/9.md), one for a line in LRESET is discarded. -/
def Obligations.TransactionQueueOrder : Prop :=
  (∀ q, nextTrans q = none ↔ q = []) ∧
  (∀ q t, nextTrans q = some t → ∃ a b, q = a ++ t :: b ∧ (∀ u ∈ a, t.kind < u.kind) ∧ ∀ u ∈ b, t.kind ≤ u.kind) ∧
  (∀ t q, (∀ u ∈ q, u.kind = t.kind → u.slot? ≠ t.slot?) → enqueue t q = q ++ [t]) ∧
  (∀ t q, (∃ u ∈ q, u.kind = t.kind ∧ u.slot? = t.slot?) → enqueue t q =
    if t.kind = 2 then q.map fun u => if u.kind = t.kind ∧ u.slot? = t.slot? then t else u else q) ∧
  ∀ (l : LineId) (t : Trans) (s : State),
    (s.mode = .unconfigured ∨ (s.dline l).state = .lreset → s.place l t = s) ∧
    (s.mode = .run → (s.dline l).state = .run → (s.dline l).flight ≠ none →
      s.place l t = s.modDline l fun d => { d with queue := enqueue t d.queue }) ∧
    (s.mode = .run → (s.dline l).state = .run → (s.dline l).flight = none → (s.dline l).queue = [] →
      s.place l t = s.modDline l fun d => { d with queue := [], flight := some { trans := t } }) ∧
    s.takeNext l = s.modDline l fun d =>
      match if d.state = .run then nextTrans d.queue else none with
      | none => { d with flight := none }
      | some u => { d with queue := d.queue.erase u, flight := some { trans := u } }

/-- The frame of every request (R117, R179), and END_OF_REQUEST and REPLY_TIMER_EXPIRY (R116, R119, R122, R123, R133): the reply
timer starts at the end of a request, and a STOP_ALL ends there; a timeout below the attempts setting sends the same request
again; the last attempt of a PROBE, and a withdrawn or abandoned transaction, end without a failure counted. -/
def Obligations.RequestsAndTheirAttempts : Prop :=
  (∀ (x : Trans) (s : State), ∃ check : Byte,
    let bus := fun i : SlotId => BitVec.ofNat 8 (s.vent i).bus
    let body : List Byte :=
      match x with
      | .stopAll => [0x00, 0x05]
      | .stop i => [bus i, 0x03]
      | .move i target fast => [bus i, 0x02] ++ bytes16 target ++ [if fast then 0x01 else 0x00]
      | .profile i e =>
        [bus i, 0x04, (s.tables.profiles[i][e]).attrId] ++ bytes16 (s.tables.profiles[i][e]).value.toNat
      | .pollMoving i | .pollIdle i | .probe i => [bus i, 0x01]
    s.requestBytes x = body ++ [check] ∧ (body ++ [check]).foldl (· + ·) 0 = 0) ∧
  ∀ (l : LineId) (f : Flight) (s : State), s.resetPin = false → (s.dline l).flight = some f →
    (f.phase = .sending → f.trans = .stopAll → exec (.endOfRequest l) s = .next (s.takeNext l).advanceCaptures) ∧
    (f.phase = .sending → f.trans ≠ .stopAll → exec (.endOfRequest l) s =
      .next (s.modDline l fun d =>
        { d with
          flight := some
            { f with
              phase := .waiting
                (if (s.lineCfg l).timeoutCode = 15 then 100 else ((s.lineCfg l).timeoutCode + 1) * 2) } }).advanceCaptures) ∧
    ∀ ms, f.phase = .waiting ms →
      (f.abandoned = false → f.withdrawn = false → f.attempt < (s.lineCfg l).attempts →
        exec (.replyTimerExpiry l) s =
          .next (s.modDline l fun d =>
            { d with flight := some { f with attempt := f.attempt + 1, phase := .sending } }).advanceCaptures) ∧
      (f.abandoned = true ∨ f.withdrawn = true ∨ (s.lineCfg l).attempts ≤ f.attempt ∧ f.trans.kind = 6 →
        exec (.replyTimerExpiry l) s = .next (s.takeNext l).advanceCaptures)

/-- LINE_BYTE_RECEIVED and REPLY_GAP_EXPIRY (R119, R120): bytes are discarded while nothing is in flight or the controller
transmits; the first byte stops the reply timer and the gap of 2 ms runs after each; the fifth completes the reply, which is
tested as the same five bytes of a DRIVE_LINE_REPLY in the wait are (DriveLineReplyIsTested); a gap puts the wait back with the
time the reply timer had left. -/
def Obligations.ReplyBytesAreAssembled : Prop :=
  ∀ (l : LineId) (b : Byte) (s : State), s.resetPin = false →
    ((s.dline l).flight = none → exec (.lineByteReceived l b) s = .next s.advanceCaptures) ∧
    ∀ f, (s.dline l).flight = some f →
      (f.phase = .sending → exec (.lineByteReceived l b) s = .next s.advanceCaptures) ∧
      (∀ ms, f.phase = .waiting ms → exec (.lineByteReceived l b) s =
        .next (s.modDline l fun d => { d with flight := some { f with phase := .receiving ms [b] 2 } }).advanceCaptures) ∧
      ∀ left bytes gap, f.phase = .receiving left bytes gap →
        (bytes.length < 4 → exec (.lineByteReceived l b) s =
          .next (s.modDline l fun d =>
            { d with flight := some { f with phase := .receiving left (bytes ++ [b]) 2 } }).advanceCaptures) ∧
        (∀ addr flags posHi posLo, bytes = [addr, flags, posHi, posLo] → exec (.lineByteReceived l b) s =
          exec (.driveLineReply l addr flags posHi posLo b)
            (s.modDline l fun d => { d with flight := some { f with phase := .waiting left } })) ∧
        exec (.replyGapExpiry l) s =
          .next (s.modDline l fun d => { d with flight := some { f with phase := .waiting left } }).advanceCaptures

/-- DRIVE_LINE_REPLY in a wait for a slot's reply (R120, R121, R133). Its five bytes arrive in succession (the model's reading,
notes/assumptions/21.md). A reply whose sum is not 0 or whose address is not 0x80 plus the slot's is discarded and the wait goes on; that of an abandoned
transaction ends it; any other is accepted: position, at most 1000, and flags are recorded and the failure counter is 0. A HOLD
capture still unknown takes the position (R26). The link follows the reply (R126, R127, R129): OFFLINE to PROFILING at the lowest
valid entry, or to ONLINE; PROFILING, at a PROFILE's reply, to the next valid entry, or to ONLINE or a refusal; ONLINE with
profile_lost to PROFILING; otherwise it stays. A slot DETACHED that comes ONLINE is judged by the reply's flags (R92): FAULT, or
IDLE, or QUEUED or STARTING when it needs a move. (That is said where no class-0 entry waits and no fallback latch can set, since
either could move the slot on within the event.) -/
def Obligations.DriveLineReplyIsTested : Prop :=
  ∀ (l : LineId) (i : SlotId) (f : Flight) (ms : Nat) (addr flags posHi posLo check : Byte) (s : State),
    s.resetPin = false → (s.dline l).flight = some f → f.phase = .waiting ms → f.trans.slot? = some i →
    let good := addr + flags + posHi + posLo + check = 0 ∧ addr = 0x80 + BitVec.ofNat 8 (s.vent i).bus
    let position := min (posHi.toNat * 256 + posLo.toNat) 1000
    (¬ good → exec (.driveLineReply l addr flags posHi posLo check) s = .next s.advanceCaptures) ∧
    (good → f.abandoned = true →
      exec (.driveLineReply l addr flags posHi posLo check) s = .next (s.takeNext l).advanceCaptures) ∧
    (good → f.abandoned = false →
      ∃ t, exec (.driveLineReply l addr flags posHi posLo check) s = .next t ∧ Keeps Slot.unlinked Zone.unsummed s t ∧
        (t.slot i).position = some position ∧ (t.slot i).flags = flags ∧
        (t.dline l).failures = 0 ∧
        (∀ j, j ≠ i → (t.slot j).position = (s.slot j).position ∧ (t.slot j).flags = (s.slot j).flags ∧
          (t.slot j).link = (s.slot j).link) ∧
        (s.mode = .run → (s.vent i).mapped = true → s.modeOf i = .hold → (s.slot i).hold = none →
          (t.slot i).hold = some position ∧ (t.slot i).source = .ovr ∧ (t.slot i).target = some position) ∧
        (s.modeOf i ≠ .hold ∨ (s.slot i).hold ≠ none → (t.slot i).hold = (s.slot i).hold) ∧
        (s.mode = .run → s.QueueOk → (s.vent i).line = l → (s.dline l).state = .run →
          (∀ x ∈ (s.dline l).queue, ∀ e, x ≠ .profile i e) →
          let lowest := fun (n : Nat) (e : Fin 8) =>
            n ≤ e.val ∧ s.validEntry i e = true ∧ ∀ d : Fin 8, n ≤ d.val → d < e → s.validEntry i d = false
          let noneFrom := fun n : Nat => ∀ e : Fin 8, n ≤ e.val → s.validEntry i e = false
          let notified := ∀ p, (t.port p).notice .ventLink = true
          let profiling := fun (e : Fin 8) (mark : Bool) =>
            (t.slot i).link = .profiling ∧ (t.slot i).profileNext = some e ∧ (t.slot i).refusedMark = mark ∧
              t.placedOrFlying l (fun x => decide (x = .profile i e)) = true
          let calm := (s.slot i).motion = .detached ∧ (s.vent i).mapped = true ∧
            (∀ j ∈ (s.mline l).queue, (s.slot j).cls ≠ some 0) ∧
            ((s.vent i).cls ≠ .sv ∨ (s.zone (s.vent i).zone).action ≠ .exhaust ∨ (s.zone (s.vent i).zone).latch = true)
          let fault := if flags.getLsbD 3 then FaultCode.obstructed else if flags.getLsbD 4 then .overcurrent
            else if flags.getLsbD 5 then .overtemp else .none
          let online := (t.slot i).link = .online ∧ (t.slot i).profileNext = none ∧ (t.slot i).refusedMark = false ∧
            (t.slot i).idlePoll = .running ((s.lineCfg l).idlePoll * 1000) ∧ notified
          let judged := calm →
            (fault ≠ .none → (t.slot i).motion = .fault ∧ (t.slot i).fault = fault ∧
              ∀ p, (t.port p).notice .ventFault = true) ∧
            (fault = .none →
              if t.evaluate i = none then (t.slot i).motion = .idle
              else (t.slot i).motion = .queued ∨ (t.slot i).motion = .starting)
          ((s.slot i).link = .offline → (t.slot i).probe = .stopped ∧ notified ∧ (∀ e, lowest 0 e → profiling e false) ∧
            (noneFrom 0 → online ∧ (f.trans.kind ≠ 2 → judged))) ∧
          (∀ n mark, (s.slot i).link = .profiling → f.trans.kind = 3 → (s.slot i).profileNext = some n →
            mark = ((s.slot i).refusedMark || flags.getLsbD 7) →
            (∀ e, lowest (n.val + 1) e → profiling e mark) ∧
            (noneFrom (n.val + 1) → online ∧ (mark = false → judged) ∧
              (mark = true → calm → (t.slot i).motion = .fault ∧ (t.slot i).fault = .profileRefused ∧
                ∀ p, (t.port p).notice .ventFault = true))) ∧
          ((s.slot i).link = .profiling → f.trans.kind ≠ 3 → (t.slot i).link = .profiling ∧
            (t.slot i).profileNext = (s.slot i).profileNext ∧ (t.slot i).refusedMark = (s.slot i).refusedMark) ∧
          (∀ e, (s.slot i).link = .online → flags.getLsbD 6 = true → lowest 0 e →
            profiling e false ∧ notified ∧ (t.slot i).idlePoll = .stopped ∧ (t.slot i).motion = .detached ∧
              ((s.slot i).motion ≠ .detached → (t.slot i).permit = false) ∧
              ∀ x ∈ (t.dline l).queue, x.slot? = some i → x.kind ≠ 2 ∧ x.kind ≠ 4 ∧ x.kind ≠ 5) ∧
          ((s.slot i).link = .online → flags.getLsbD 6 = false ∨ noneFrom 0 → (t.slot i).link = .online)))

/-- What an accepted reply of an ONLINE slot does to its motion (R91, R93–R98, R100, R101), by the slot's state and the kind of
the transaction. A reply to any MOVE in STARTING is taken as the one awaited (the model's deduction, notes/assumptions/18.md),
and a target change deferred to it is then handled as in MOVING (R96), its class following from the direction recorded when no
move is needed any more (the model's deduction, notes/assumptions/17.md). Fault flags come first, then a MOVE's refused flag; a
reply of another kind than a state waits for leaves it. IDLE and QUEUED are evaluated (that one made IDLE has no direction
recorded and no deferred mark is the model's choice, notes/assumptions/7.md); STOPPING ends in its continuation. (Where
a move follows, no class-0 entry waits: one could preempt it within the same event. profile_lost with a valid entry, and a HOLD
capture still unknown, are DriveLineReplyIsTested's.) -/
def Obligations.AcceptedReplyDrivesMotion : Prop :=
  ∀ (l : LineId) (i : SlotId) (f : Flight) (ms : Nat) (flags posHi posLo check : Byte) (s : State),
    s.resetPin = false → s.QueueOk → (s.dline l).flight = some f → f.phase = .waiting ms → f.trans.slot? = some i →
    f.abandoned = false → (s.slot i).link = .online → (s.modeOf i = .hold → (s.slot i).hold ≠ none) →
    (flags.getLsbD 6 = true → ∀ e, s.validEntry i e = false) →
    (0x80 + BitVec.ofNat 8 (s.vent i).bus) + flags + posHi + posLo + check = 0 →
    let c := Instr.driveLineReply l (0x80 + BitVec.ofNat 8 (s.vent i).bus) flags posHi posLo check
    let position := min (posHi.toNat * 256 + posLo.toNat) 1000
    let faulty := flags.getLsbD 3 = true ∨ flags.getLsbD 4 = true ∨ flags.getLsbD 5 = true
    let noted : Slot := { s.slot i with position := some position, flags := flags }
    let started : Slot :=
      { noted with
        motion := .moving, travel := .running ((s.vent i).travelLimit * 1000)
        poll := .running ((s.lineCfg (s.vent i).line).movePoll * 100), deferred := false }
    let cls := fun d : Direction => permitClass noted.source d
    let driven := s.mode = .run ∧ (s.dline l).state = .run ∧ (s.vent i).line = l ∧
      ∀ j ∈ (s.mline l).queue, (s.slot j).cls ≠ some 0
    (faulty → (s.slot i).motion ≠ .detached → (s.slot i).motion ≠ .fault →
      ∃ t, exec c s = .next t ∧ (t.slot i).motion = .fault ∧ (t.slot i).permit = false ∧
        (t.slot i).fault = (if flags.getLsbD 3 then .obstructed else if flags.getLsbD 4 then .overcurrent else .overtemp) ∧
        ∀ p, (t.port p).notice .ventFault = true) ∧
    (¬ faulty → (s.slot i).motion = .starting ∨ (s.slot i).motion = .moving → f.trans.kind = 2 → flags.getLsbD 7 = true →
      ∃ t, exec c s = .next t ∧ (t.slot i).motion = .fault ∧ (t.slot i).permit = false ∧ (t.slot i).fault = .moveRefused) ∧
    (¬ faulty → (s.slot i).motion = .starting → (s.slot i).deferred = false → f.trans.kind = 2 → flags.getLsbD 7 = false →
      ∃ t, exec c s = .next t ∧ t.slot i = started) ∧
    (¬ faulty → (s.slot i).motion = .starting → (s.slot i).deferred = true → f.trans.kind = 2 → flags.getLsbD 7 = false →
      driven →
      let need := needsMove (s.vent i) started
      ∃ t, exec c s = .next t ∧
        (∀ d target, need = some d → noted.dir = some d → noted.target = some target →
          t.slot i = { started with cls := some (cls d) } ∧
            t.placedOrFlying l (fun x => decide (x = .move i target (decide (cls d = 0)))) = true) ∧
        (need = none ∨ need ≠ noted.dir →
          t.slot i =
              { started with
                motion := .stopping (if need = none then .release else .reversal), travel := .stopped, poll := .stopped
                dwell := .stopped, cls := match need.or noted.dir with | some d => some (cls d) | none => noted.cls } ∧
            t.placedOrFlying l (fun x => decide (x = .stop i)) = true)) ∧
    (¬ faulty →
      (s.slot i).motion = .starting ∧ f.trans.kind ≠ 2 ∨
        (s.slot i).motion = .moving ∧ f.trans.kind ≠ 4 ∧ f.trans.kind ≠ 5 ∧ (f.trans.kind = 2 → flags.getLsbD 7 = false) ∨
        (∃ k, (s.slot i).motion = .stopping k ∧ f.trans.kind ≠ 1) ∨ (s.slot i).motion = .dwell ∨
        (s.slot i).motion = .detached ∨ (s.slot i).motion = .fault →
      ∃ t, exec c s = .next t ∧ t.slot i = noted) ∧
    (¬ faulty → (s.slot i).motion = .idle ∨ (s.slot i).motion = .queued →
      (∀ j ∈ (s.mline (s.vent i).line).queue, j = i ∨ (s.slot j).cls ≠ some 0) →
      let need := needsMove (s.vent i) noted
      ∃ t, exec c s = .next t ∧
        (need = none → (s.slot i).motion = .idle → t.slot i = noted) ∧
        (need = none → (s.slot i).motion = .queued → t.slot i =
          { noted with motion := .idle, entryTime := none, cls := none, dir := none, deferred := false }) ∧
        ∀ d, need = some d →
          ((t.slot i).motion = .queued ∨ (t.slot i).motion = .starting) ∧ (t.slot i).dir = some d ∧
            (t.slot i).cls = some (cls d) ∧
            (cls d ≠ 0 → (t.slot i).motion = .queued → (s.slot i).motion = .queued →
              (t.slot i).entryTime = (s.slot i).entryTime) ∧
            (∀ target, (s.slot i).motion = .idle → driven → (s.mline l).queue = [] → (s.mline l).power = .active →
              (s.mline l).holders.length < s.limit l → noted.target = some target →
              (t.slot i).motion = .starting ∧ (t.slot i).permit = true ∧ i ∈ (t.mline l).holders ∧
                t.placedOrFlying l (fun x => decide (x = .move i target (decide (cls d = 0)))) = true)) ∧
    (∀ k, ¬ faulty → (s.slot i).motion = .stopping k → f.trans.kind = 1 → driven →
      let need := needsMove (s.vent i) noted
      let dwell := (s.lineCfg l).revDwell * 100
      ∃ t, exec c s = .next t ∧
        (k ≠ .reversal → (t.slot i).permit = (decide ((t.slot i).motion = .starting)) ∧
          (need = none → (t.slot i).motion = .idle ∧
            (t.mline l).preempting = (s.mline l).preempting - (if k = .preemption then 1 else 0)) ∧
          ∀ d, need = some d → ((t.slot i).motion = .queued ∨ (t.slot i).motion = .starting) ∧ (t.slot i).dir = some d ∧
            (t.slot i).cls = some (cls d)) ∧
        (k = .reversal → 0 < dwell → t.slot i = { noted with motion := .dwell, dwell := .running dwell }) ∧
        (k = .reversal → dwell = 0 → need = none → (t.slot i).motion = .idle ∧ (t.slot i).permit = false) ∧
        ∀ d target, k = .reversal → dwell = 0 → need = some d → noted.target = some target →
          t.slot i =
              { noted with
                motion := .starting, dir := some d, cls := some (cls d), dwell := .stopped, stoppedShort := 0
                deferred := false } ∧
            t.placedOrFlying l (fun x => decide (x = .move i target (decide (cls d = 0)))) = true) ∧
    ∀ target, ¬ faulty → (s.slot i).motion = .moving → f.trans.kind = 4 ∨ f.trans.kind = 5 →
      (s.slot i).target = some target →
      let near := ((target : Int) - position).natAbs ≤ (s.vent i).deadband ∧ flags.getLsbD 0 = false
      let atEnd := flags.getLsbD 1 = true ∧ target = 1000 ∨ flags.getLsbD 2 = true ∧ target = 0
      (near ∨ atEnd → ∃ t, exec c s = .next t ∧ (t.slot i).motion = .idle ∧ (t.slot i).permit = false ∧
        (t.slot i).travel = .stopped ∧ (t.slot i).poll = .stopped ∧ (t.slot i).dwell = .stopped) ∧
      (¬ near → ¬ atEnd → flags.getLsbD 0 = true → ∃ t, exec c s = .next t ∧ t.slot i = noted) ∧
      (¬ near → ¬ atEnd → flags.getLsbD 0 = false → (s.slot i).stoppedShort = 0 →
        ∃ t, exec c s = .next t ∧ t.slot i = { noted with stoppedShort := 1 } ∧
          (s.mode = .run → (s.dline l).state = .run → (s.vent i).line = l → t.placedOrFlying l (fun x =>
            decide (x = .move i target (decide ((s.slot i).cls = some 0)))) = true)) ∧
      (¬ near → ¬ atEnd → flags.getLsbD 0 = false → (s.slot i).stoppedShort ≠ 0 →
        ∃ t, exec c s = .next t ∧ (t.slot i).motion = .fault ∧ (t.slot i).fault = .stalled ∧ (t.slot i).permit = false)

/-- A transaction exhausted at its last attempt (R92, R122, R124, R131), other than a PROBE. A slot not yet OFFLINE enters OFFLINE
and becomes DETACHED, and every transaction pending for it but a STOP is withdrawn; one already OFFLINE stays as it is, and nothing else is done for it. In both cases the failure counter
rises, and at the fail limit the line enters LRESET and every member is OFFLINE. -/
def Obligations.ExhaustionTakesTheSlotOffline : Prop :=
  ∀ (i : SlotId) (f : Flight) (ms : Nat) (s : State), s.resetPin = false → s.QueueOk → (s.vent i).mapped = true →
    let l := (s.vent i).line
    (s.dline l).flight = some f → f.phase = .waiting ms → f.trans.slot? = some i → f.trans.kind ≠ 6 →
    f.abandoned = false → f.withdrawn = false → (s.lineCfg l).attempts ≤ f.attempt →
    let below := (s.dline l).failures + 1 < (s.lineCfg l).failLimit
    let failed := (s.modDline l fun d => { d with failures := d.failures + 1 }).takeNext l
    ∃ t, exec (.replyTimerExpiry l) s = .next t ∧ Keeps Slot.unlinked Zone.unsummed s t ∧
      ((s.slot i).link ≠ .offline →
        (t.slot i).link = .offline ∧ (t.slot i).position = none ∧ (t.slot i).flags = 0 ∧ (t.slot i).motion = .detached ∧
          (t.slot i).fault = (if (s.slot i).motion = .detached then (s.slot i).fault else .none) ∧
          (t.slot i).idlePoll = .stopped ∧ (t.slot i).profileNext = none ∧ (∀ p, (t.port p).notice .ventLink = true) ∧
          (below → (t.dline l).failures = (s.dline l).failures + 1 ∧ (t.dline l).state = (s.dline l).state ∧
            (t.slot i).probe = .running ((s.lineCfg l).probe * 1000) ∧
            (∀ x ∈ (t.dline l).queue, x.slot? = some i → x = .stop i) ∧
            (∀ g, (t.dline l).flight = some g → g.trans.slot? = some i → g.trans = .stop i) ∧
            (Trans.stop i ∈ (s.dline l).queue →
              Trans.stop i ∈ (t.dline l).queue ∨ ∃ g, (t.dline l).flight = some g ∧ g.trans = .stop i))) ∧
      ((s.slot i).link = .offline →
        (below → t = failed.advanceCaptures ∧ ∀ j, t.slot j = s.slot j) ∧
          ((s.slot i).motion = .detached → t.slot i =
            { s.slot i with
              probe := (t.slot i).probe, fire := (t.slot i).fire, source := (t.slot i).source, target := (t.slot i).target })) ∧
      (below → ∀ j, j ≠ i → (t.slot j).link = (s.slot j).link ∧ (t.slot j).position = (s.slot j).position) ∧
      (¬ below →
        t.dline l =
          { state := .lreset, queue := [], flight := none, failures := 0, owed := (s.dline l).owed
            reset := .running (if (s.lineCfg l).resetCode = 255 then 5000 else ((s.lineCfg l).resetCode + 1) * 10) } ∧
          (∀ j ∈ s.lineMembers l, (t.slot j).link = .offline ∧ (t.slot j).probe = .stopped ∧
            ((s.slot j).link ≠ .offline →
              (t.slot j).position = none ∧ (t.slot j).flags = 0 ∧ (t.slot j).motion = .detached)) ∧
          ∀ p, (t.port p).notice .line = true)

/-- LINE_RESET_TIMER_EXPIRY (R132): the line returns to RUN, sends an owed STOP_ALL or else the PROBE of its lowest member, has a
PROBE placed for every member, restarts their probe timers, and raises LINE. -/
def Obligations.LineResetEndsWithProbes : Prop :=
  ∀ (l : LineId) (ms : Nat) (s : State), s.resetPin = false → s.mode = .run → (s.dline l).reset = .running ms →
    (s.dline l).queue = [] → (s.dline l).flight = none →
    ∃ t, exec (.lineResetTimerExpiry l) s = .next t ∧ Keeps Slot.unlinked Zone.unsummed s t ∧
      (t.dline l).state = .run ∧ (t.dline l).reset = .stopped ∧ (t.dline l).owed = false ∧
      (∀ p, (t.port p).notice .line = true) ∧
      (∀ i ∈ s.lineMembers l, (t.slot i).probe = .running ((s.lineCfg l).probe * 1000) ∧
        t.placedOrFlying l (fun x => decide (x = .probe i)) = true) ∧
      ((s.dline l).owed = true → (t.inFlight l).map (fun f => f.trans) = some .stopAll) ∧
      ((s.dline l).owed = false → ∀ i, (s.lineMembers l).head? = some i →
        (t.inFlight l).map (fun f => f.trans) = some (.probe i))

/-! ## Weather (chapter 4) -/

/-- WEATHER_BYTE before the seventh byte of a record, FRAMING_ERROR and GAP_EXPIRY (R68, R69, R73): in HUNTING a byte other than
0xA5 is thrown away, each byte kept starts the 20 ms gap, and a framing error or a gap throws the bytes away and counts one
error, which stays at 65535. -/
def Obligations.WeatherBytesAreAssembled : Prop :=
  ∀ (b : Byte) (s : State), s.resetPin = false →
    (s.wx.rx = [] → b ≠ 0xA5 → exec (.weatherByte b) s = .next s.advanceCaptures) ∧
    (s.wx.rx = [] → b = 0xA5 → exec (.weatherByte b) s =
      .next (s.modWx fun w => { w with rx := [0xA5], gap := .running 20 }).advanceCaptures) ∧
    (s.wx.rx ≠ [] → s.wx.rx.length < 6 → exec (.weatherByte b) s =
      .next (s.modWx fun w => { w with rx := w.rx ++ [b], gap := .running 20 }).advanceCaptures) ∧
    (s.wx.rx = [] → exec .framingError s = .next s.advanceCaptures) ∧
    (s.wx.rx ≠ [] →
      exec .framingError s = .next (s.modWx fun w =>
        { w with rx := [], gap := .stopped, errors := min (w.errors + 1) 65535 }).advanceCaptures ∧
      ∀ ms, s.wx.gap = .running ms → exec .gapExpiry s = .next (s.modWx fun w =>
        { w with rx := [], gap := .stopped, errors := min (w.errors + 1) 65535 }).advanceCaptures)

/-- The seventh byte of a record (R70–R73): a wrong sum or the station fault flag counts an error and does nothing else; a valid
record taken while UNCONFIGURED is kept as the last record, with the speed clamped to 600, and goes no further. -/
def Obligations.CompleteRecordIsTested : Prop :=
  ∀ (a dh dl vh vl flags check : Byte) (s : State), s.resetPin = false → s.wx.rx = [a, dh, dl, vh, vl, flags] →
    (a + dh + dl + vh + vl + flags + check ≠ 0 ∨ flags.getLsbD 1 = true →
      exec (.weatherByte check) s = .next (s.modWx fun w =>
        { w with rx := [], gap := .stopped, errors := min (w.errors + 1) 65535 }).advanceCaptures) ∧
    (a + dh + dl + vh + vl + flags + check = 0 → flags.getLsbD 1 = false → s.mode = .unconfigured →
      exec (.weatherByte check) s = .next (s.modWx fun w =>
        { w with
          rx := [], gap := .stopped
          last :=
            { received := true, dir := dh.toNat * 256 + dl.toNat, speed := min (vh.toNat * 256 + vl.toNat) 600
              rain := flags.getLsbD 0, held := decide (3599 < dh.toNat * 256 + dl.toNat) } }).advanceCaptures)

/-- A valid record in RUN (R54, R55, R74, R76, R77, R80–R87): re-seeding while STALE, processing while LIVE; every mapped slot's class
and ceiling are those of the weather the record leaves, and WEATHER is raised if the gate, storm, rain or LIVE state changed. The
changes are handed on: each zone with an SV member of another class takes its available area again, and may set its latch; each
slot with another class or ceiling, or in a zone whose latch set, takes its fire value and is recomposed; no other does. -/
def Obligations.ValidRecordInRun : Prop :=
  ∀ (a dh dl vh vl flags check : Byte) (s : State), s.resetPin = false → s.mode = .run →
    s.wx.rx = [a, dh, dl, vh, vl, flags] → a + dh + dl + vh + vl + flags + check = 0 → flags.getLsbD 1 = false →
    let c := s.tables.weather
    let w := s.wx
    let theta := dh.toNat * 256 + dl.toNat
    let v := min (vh.toNat * 256 + vl.toNat) 600
    let wet := flags.getLsbD 0
    let sdir := if theta ≤ 3599 then (if w.live then smoothDir c.k w.sdir theta else theta) else if w.live then w.sdir else 0
    let sv := if w.live then smoothSpeed c.k w.sv v else v
    let ring : Vector Nat 8 :=
      if w.live then #v[w.ring[1], w.ring[2], w.ring[3], w.ring[4], w.ring[5], w.ring[6], w.ring[7], v]
      else Vector.replicate 8 v
    let n := if wet then c.rainHold else if w.live then w.rainCount - 1 else 0
    let gate := if c.vOn ≤ sv then true else if sv < c.vOff then false else w.live && w.gate
    let storm := if ∃ j : Fin 8, c.vStorm ≤ ring[j] then Tri.active else .inactive
    let rain := if 0 < n ∨ wet = true then Tri.active else .inactive
    ∃ t, exec (.weatherByte check) s = .next t ∧
      Keeps Slot.becalmed Zone.unsummed { s with wx := t.wx } t ∧
      t.wx =
        { rx := [], gap := .stopped, errors := w.errors
          last := { received := true, dir := theta, speed := v, rain := wet, held := decide (3599 < theta) }
          live := true, stale := .running (c.staleTime * 1000), sdir := sdir, sv := sv, ring := ring, gate := gate
          storm := storm, rain := rain, rainCount := n } ∧
      (∀ i, (s.vent i).mapped = true →
        (t.slot i).windClass = classify c t.wx (s.vent i).facing ∧
          (t.slot i).ceiling = ceilingOf c t.wx (classify c t.wx (s.vent i).facing)) ∧
      (∀ i, (s.vent i).mapped = false →
        (t.slot i).windClass = (s.slot i).windClass ∧ (t.slot i).ceiling = (s.slot i).ceiling) ∧
      (∀ z, let hit := ∃ i, (s.vent i).mapped = true ∧ (s.vent i).zone = z ∧ (s.vent i).cls = .sv ∧
            (t.slot i).windClass ≠ (s.slot i).windClass
        (hit → t.zone z =
          { s.zone z with
            avail := t.availOf z
            latch := (s.zone z).latch ||
              decide ((s.zone z).action = .exhaust ∧ t.availOf z < (s.zoneCfg z).areq) }) ∧ (¬ hit → t.zone z = s.zone z) ∧
        ((t.zone z).latch ≠ (s.zone z).latch → ∀ p, (t.port p).notice .zone = true)) ∧
      (∀ i, if (s.vent i).mapped = true ∧ ((t.slot i).windClass ≠ (s.slot i).windClass ∨
            (t.slot i).ceiling ≠ (s.slot i).ceiling ∨
            (t.zone (s.vent i).zone).latch ≠ (s.zone (s.vent i).zone).latch) then
          (t.slot i).fire = t.fireValueOf i ∧ ((t.slot i).source, (t.slot i).target) = t.composedOf i
        else (t.slot i).fire = (s.slot i).fire ∧ (t.slot i).source = (s.slot i).source ∧
          (t.slot i).target = (s.slot i).target) ∧
      (w.live = false ∨ gate ≠ w.gate ∨ storm ≠ w.storm ∨ rain ≠ w.rain → ∀ p, (t.port p).notice .weather = true)

/-- STALE_TIMER_EXPIRY (R75): WXP is STALE, the gate INACTIVE, storm and rain unknown, the smoothed values stay, every mapped slot
is CALM with ceiling 0, and WEATHER is raised. In RUN the changes are handed on to the zones, the fire values and the composed
pairs as those of a record are (R54, R55, R86). -/
def Obligations.StaleWeatherCalmsEverySlot : Prop :=
  ∀ (ms : Nat) (s : State), s.resetPin = false → s.wx.stale = .running ms →
    ∃ t, exec .staleTimerExpiry s = .next t ∧ Keeps Slot.becalmed Zone.unsummed { s with wx := t.wx } t ∧
      t.wx = { s.wx with live := false, stale := .stopped, gate := false, storm := .unknown, rain := .unknown } ∧
      (∀ i, (s.vent i).mapped = true → (t.slot i).windClass = .calm ∧ (t.slot i).ceiling = 0) ∧
      (∀ p, (t.port p).notice .weather = true) ∧
      (s.mode = .run →
        (∀ z, let hit := ∃ i, (s.vent i).mapped = true ∧ (s.vent i).zone = z ∧ (s.vent i).cls = .sv ∧
              (t.slot i).windClass ≠ (s.slot i).windClass
          (hit → t.zone z =
            { s.zone z with
              avail := t.availOf z
              latch := (s.zone z).latch ||
                decide ((s.zone z).action = .exhaust ∧ t.availOf z < (s.zoneCfg z).areq) }) ∧ (¬ hit → t.zone z = s.zone z) ∧
          ((t.zone z).latch ≠ (s.zone z).latch → ∀ p, (t.port p).notice .zone = true)) ∧
        (∀ i, if (s.vent i).mapped = true ∧ ((t.slot i).windClass ≠ (s.slot i).windClass ∨
              (t.slot i).ceiling ≠ (s.slot i).ceiling ∨
              (t.zone (s.vent i).zone).latch ≠ (s.zone (s.vent i).zone).latch) then
            (t.slot i).fire = t.fireValueOf i ∧ ((t.slot i).source, (t.slot i).target) = t.composedOf i
          else (t.slot i).fire = (s.slot i).fire ∧ (t.slot i).source = (s.slot i).source ∧
            (t.slot i).target = (s.slot i).target))

/-- Smoothing (R78, R79) and wind classes (R84, R85): the difference is the short way round the circle; the smoothed direction is
an angle, the smoothed speed lies between the old one and the record's, and with k = 0 both equal the record's. -/
def Obligations.SmoothingAndClasses : Prop :=
  (∀ a b : Nat, -1800 ≤ angleDiff a b ∧ angleDiff a b ≤ 1799 ∧
    ((a : Int) - b) % 3600 = angleDiff a b % 3600) ∧
  (∀ k sdir theta : Nat, sdir < 3600 → theta < 3600 →
    smoothDir k sdir theta < 3600 ∧
      (smoothDir k sdir theta : Int) = ((sdir : Int) + (angleDiff theta sdir).tdiv (2 ^ k) + 3600) % 3600 ∧
      smoothDir 0 sdir theta = theta) ∧
  (∀ k sv v : Nat, min sv v ≤ smoothSpeed k sv v ∧ smoothSpeed k sv v ≤ max sv v ∧
    (smoothSpeed k sv v : Int) = (sv : Int) + ((v : Int) - sv).tdiv (2 ^ k) ∧ smoothSpeed 0 sv v = v) ∧
  ∀ (c : WeatherCfg) (w : Weather) (phi : Nat),
    let a := (angleDiff phi w.sdir).natAbs
    (w.live = false ∨ w.gate = false → ∀ f, classify c w f = .calm) ∧
    (w.live = true → w.gate = true → classify c w .flat = .cross ∧
      (a < c.wHalf → classify c w (.angle phi) = .windward) ∧
      (c.wHalf ≤ a → 1800 - c.lHalf < a → classify c w (.angle phi) = .leeward) ∧
      (c.wHalf ≤ a → a ≤ 1800 - c.lHalf → classify c w (.angle phi) = .cross)) ∧
    ∀ k, ceilingOf c w k =
      if w.live = false ∨ w.rain = .active ∨ w.storm = .active then 0 else if k = .windward then c.cWind else 1000

/-! ## Window Engine (chapter 7) -/

/-- WINDOW_SET and PATTERN_LOAD (R137, R143): BUSY while an operation is in progress, BAD_PARAM on what is out of range, and
otherwise the whole setting or tile is replaced. -/
def Obligations.WindowAndPatternAreStored : Prop :=
  ∀ s : State, s.ready .b →
    (∀ xs xe ys ye flags : Byte,
      (s.eng.op ≠ none →
        exec (.windowSet .b xs xe ys ye flags) s = .next (s.replied .b { status := .busy }).advanceCaptures) ∧
      (s.eng.op = none → 15 < xe.toNat ∨ 11 < ye.toNat ∨ xe.toNat < xs.toNat ∨ ye.toNat < ys.toNat →
        exec (.windowSet .b xs xe ys ye flags) s = .next (s.replied .b { status := .badParam }).advanceCaptures) ∧
      (s.eng.op = none → xe.toNat ≤ 15 → ye.toNat ≤ 11 → xs.toNat ≤ xe.toNat → ys.toNat ≤ ye.toNat →
        exec (.windowSet .b xs xe ys ye flags) s =
          .next ((s.modEng fun e =>
            { e with
              window :=
                { xs := xs.toNat, xe := xe.toNat, ys := ys.toNat, ye := ye.toNat, mv := flags.getLsbD 0
                  mx := flags.getLsbD 1, my := flags.getLsbD 2 } }).replied .b {}).advanceCaptures)) ∧
    ∀ values : List Word16,
      (s.eng.op ≠ none → exec (.patternLoad .b values) s = .next (s.replied .b { status := .busy }).advanceCaptures) ∧
      (s.eng.op = none → values.length ≠ 16 →
        exec (.patternLoad .b values) s = .next (s.replied .b { status := .badParam }).advanceCaptures) ∧
      (s.eng.op = none → ∀ tile : Vector Word16 16, tile.toList = values →
        exec (.patternLoad .b values) s = .next ((s.modEng fun e => { e with tile := tile }).replied .b {}).advanceCaptures)

/-- The seven operation commands (R141–R147, R152): BUSY while an operation is in progress; BAD_PARAM on a parameter out of
range; otherwise the operation is taken with N from the window, its counts at 0 and its outcome NONE, and an input operation is
FEEDING with 10 seconds. A COPY records its source at the take. -/
def Obligations.OperationsAreTaken : Prop :=
  ∀ (c : Instr) (x : Option OpKind) (s : State), s.ready .b → s.mode = .run →
    let w := s.eng.window
    let width := w.xe - w.xs + 1
    let height := w.ye - w.ys + 1
    (c = .opFill .b 0xFFFF ∧ x = none ∨
      (∃ v : Word16, v ≠ 0xFFFF ∧ c = .opFill .b v ∧ x = some (.fill v)) ∨
      c = .opPattern .b ∧ x = some .pattern ∨
      (∃ row col : Byte, (12 < row.toNat + height ∨ 16 < col.toNat + width) ∧ c = .opCopy .b row col ∧ x = none) ∨
      (∃ row col : Byte, row.toNat + height ≤ 12 ∧ col.toNat + width ≤ 16 ∧ c = .opCopy .b row col ∧
        x = some (.copy row.toNat col.toNat)) ∨
      (∃ (f b : Word16) (keyed : Byte), 1 < keyed.toNat ∧ c = .opExpand .b f b keyed ∧ x = none) ∨
      (∃ (f b : Word16) (keyed : Byte), keyed.toNat ≤ 1 ∧ c = .opExpand .b f b keyed ∧
        x = some (.expand f b (decide (keyed.toNat = 1)))) ∨
      c = .opBlock .b ∧ x = some .block ∨
      (∃ (code : Byte) (f : Word16), (15 < code.toNat ∨ 0xFFFE ≤ f.toNat) ∧ c = .opMask .b code f ∧ x = none) ∨
      (∃ (code : Byte) (k : Fin 16) (f : Word16), code.toNat = k.val ∧ f.toNat < 0xFFFE ∧ c = .opMask .b code f ∧
        x = some (.mask k (min f.toNat 1000))) ∨
      (∃ kind : Byte, 3 < kind.toNat ∧ c = .opRead .b kind ∧ x = none) ∨
      (∃ (kind : Byte) (k : Fin 4), kind.toNat = k.val ∧ c = .opRead .b kind ∧ x = some (.read k))) →
    (s.eng.op ≠ none → exec c s = .next (s.replied .b { status := .busy }).advanceCaptures) ∧
    (s.eng.op = none → x = none → exec c s = .next (s.replied .b { status := .badParam }).advanceCaptures) ∧
    ∀ k, s.eng.op = none → x = some k →
      ∃ e : Engine, exec c s = .next ((s.modEng fun _ => e).replied .b {}).advanceCaptures ∧
        (let n := width * height
        e = { s.eng with
              op := some
                { kind := k, n := n, accepted := 0, k := 0, feeding := k.isInput
                  needed :=
                    match k with
                    | .expand _ _ _ | .mask _ _ => (n + 15) / 16
                    | .block => n
                    | _ => 0 }
              feed := if k.isInput then .running 10000 else .stopped
              written := 0, skipped := 0, refused := 0, remaining := n, outcome := .none, due := .none
              snapshot := e.snapshot } ∧
          ((∀ row col, k ≠ .copy row col) → e.snapshot = []) ∧
          ∀ row col, k = .copy row col →
            e.snapshot.length = n ∧
              ∀ j, j < n →
                let i := slotAt (row + j / width) (col + j % width)
                e.snapshot[j]? = some
                  (if (s.vent i).mapped = true then (match (s.slot i).bms with | some b => .set b | none => .clear)
                  else .clear))

/-- The scan and the requests of an operation (R138, R139, R142–R147): the slot of each step, the keys of a value, the bit of an
item for a step, and what each kind of operation asks of a slot. -/
def Obligations.ScanOrderAndRequests : Prop :=
  (∀ (w : Window) (k : Nat),
    let width := w.xe - w.xs + 1
    let height := w.ye - w.ys + 1
    let dc := if w.mv then k / height else k % width
    let dr := if w.mv then k % height else k / width
    w.slotOf k = slotAt (if w.my then w.ye - dr else w.ys + dr) (if w.mx then w.xe - dc else w.xs + dc)) ∧
  (∀ r c, r < 12 → c < 16 → (slotAt r c).val = r * 16 + c) ∧
  (∀ v : Word16, (v.toNat ≤ 1000 → requestOf v = .set v.toNat) ∧
    (1000 < v.toNat → v.toNat < 0xFFFE → requestOf v = .set 1000) ∧
    (v = 0xFFFE → requestOf v = .clear) ∧ (v = 0xFFFF → requestOf v = .leave)) ∧
  ∀ (s : State) (o : Op) (item : Word16),
    let i := s.eng.window.slotOf o.k
    let marked := item.getLsbD (15 - o.k % 16)
    (∀ v, o.kind = .fill v → s.requestAt o item = requestOf v) ∧
    (∀ r c (hr : r < 4) (hc : c < 4), o.kind = .pattern → i.val / 16 % 4 = r → i.val % 16 % 4 = c →
      s.requestAt o item = requestOf (s.eng.tile[r * 4 + c]'(by omega))) ∧
    (∀ row col q, o.kind = .copy row col → s.eng.snapshot[o.k]? = some q → s.requestAt o item = q) ∧
    (∀ f b keyed, o.kind = .expand f b keyed → s.requestAt o item =
      if marked then requestOf f else if keyed then .leave else requestOf b) ∧
    (o.kind = .block → s.requestAt o item = requestOf item) ∧
    ∀ code f, o.kind = .mask code f →
      let d := (s.slot i).bms.isSome
      let present := code.val.testBit (2 * (if marked then 1 else 0) + if d then 1 else 0)
      s.requestAt o item = if d = present then .leave else if d then .clear else .set f

/-- SCAN_VISIT (R38, R140, R142, R150, R156): one slot is visited and gets one result, the scan advances, and at its end an
operation ends with its outcome and raises OP_DONE on PORT-B. An input operation visits only with an item in hand. -/
def Obligations.ScanVisitGivesOneResult : Prop :=
  ∀ (o : Op) (item : Word16) (s : State), s.resetPin = false → s.eng.op = some o → o.kind.isRead = false →
    (o.kind.isInput = true → s.eng.hand = some item) →
    let i := s.eng.window.slotOf o.k
    let q := s.requestAt o item
    let mapped := (s.vent i).mapped = true
    let allowed := s.claimAllowed .b i = true
    let itemOver := o.kind = .block ∨ o.n ≤ o.k + 1 ∨ (o.k + 1) % 16 = 0
    let e : Engine :=
      { s.eng with
        op := some { o with k := o.k + 1 }, remaining := s.eng.remaining - 1
        skipped := s.eng.skipped + (if ¬ mapped then 1 else 0)
        written := s.eng.written + (if mapped ∧ q ≠ .leave ∧ allowed then 1 else 0)
        refused := s.eng.refused + (if mapped ∧ q ≠ .leave ∧ ¬ allowed then 1 else 0)
        hand := if o.kind.isInput = true ∧ itemOver then none else s.eng.hand }
    let ended :=
      if o.kind.isInput = true then itemOver ∧ o.feeding = false ∧ s.eng.fifo = [] else o.n ≤ o.k + 1
    ∃ t, exec .scanVisit s = .next t ∧
      Keeps (fun r => { r.untargeted with bms := none }) id { s with eng := t.eng } t ∧
      (¬ ended → t.eng = e) ∧
      (ended → t.eng =
        { e with
          op := none, hand := none, snapshot := [], fifo := [], feed := .stopped, due := .none
          outcome := if o.kind.isInput = true then s.eng.due else .complete } ∧ (t.port .b).notice .opDone = true) ∧
      (∀ v, mapped → allowed → q = .set v → (t.slot i).bms = some v) ∧
      (mapped → allowed → q = .clear → (t.slot i).bms = none) ∧
      (¬ mapped ∨ ¬ allowed ∨ q = .leave → t.slots = s.slots) ∧
      ∀ j, j ≠ i → (t.slot j).bms = (s.slot j).bms

/-- DATA with items an operation still needs and the FIFO has room for, and ITEM_TAKE (R149, R150): the items join the FIFO, the
feed timer restarts, the reply counts items accepted and needed, and the last item needed takes the operation out of FEEDING;
the engine takes the oldest item in hand. (A whole DATA frame is one event here, notes/assumptions/11.md; with nothing FEEDING
it is refused with BAD_COMMAND, an empty one too, notes/assumptions/13.md; and so it is on another port, whose reply carries no
counts, notes/assumptions/12.md: three readings of the model.) Byte by byte (R149, R159, R163): the code, the first byte of an item, and
the second, which is accepted, refused with BAD_COMMAND, BAD_PARAM (at the end of count, notes/assumptions/14.md) or BUSY, or held
while the FIFO is full; the end of the frame, whose reply takes the first refusal and the counts; and the ITEM_TAKE that ends such
a hold (with the operation no longer FEEDING: the model's choice, notes/assumptions/15.md). -/
def Obligations.DataItemsJoinTheFifo : Prop :=
  ∀ s : State,
    let counts : List Byte := match s.eng.op with
      | some o => if o.kind.isInput then [BitVec.ofNat 8 o.accepted, BitVec.ofNat 8 o.needed] else [0, 0]
      | none => [0, 0]
    let refused := fun (status : StatusCode) (pt : Port) =>
      { pt with
        frame := .ignoring, ack := false
        data := { pt.data with high := none, refusal := some (pt.data.refusal.getD status) } }
    let joined := fun (o : Op) (item : Word16) (rest : List Word16) =>
      { s.eng with
        fifo := rest ++ [item], op := some { o with accepted := o.accepted + 1, feeding := decide (o.accepted + 1 < o.needed) }
        feed := if o.needed ≤ o.accepted + 1 then .stopped else .running 10000
        due := if o.needed ≤ o.accepted + 1 then .complete else s.eng.due }
    let acked := fun (o : Op) (pt : Port) =>
      { pt with
        frame := .write, ack := true
        data := { pt.data with high := none, full := pt.data.full || decide (o.needed ≤ o.accepted + 1) } }
    (∀ (o : Op) (items : List Word16), s.ready .b → (s.port .b).frame = .idle → s.eng.op = some o →
      o.kind.isInput = true → o.feeding = true → items ≠ [] → s.eng.fifo.length + items.length ≤ 16 →
      o.accepted + items.length ≤ o.needed →
      let last := o.accepted + items.length = o.needed
      ∃ t, exec (.data .b (items.flatMap fun v => bytes16 v.toNat)) s = .next t ∧
        t.eng =
          { s.eng with
            fifo := s.eng.fifo ++ items
            op := some { o with accepted := o.accepted + items.length, feeding := decide ¬ last }
            feed := if last then .stopped else .running 10000
            due := if last then .complete else s.eng.due } ∧
        Keeps id id { s with eng := t.eng, ports := t.ports } t ∧ t.slots = s.slots ∧ t.motion = s.motion ∧ t.dlc = s.dlc ∧
        (∀ p, p ≠ .b → (t.port p).apart = (s.port p).apart ∧ (t.port p).flags = (s.port p).flags) ∧
        (t.port .b).reply =
          { status := .ok
            payload := [BitVec.ofNat 8 (o.accepted + items.length), BitVec.ofNat 8 o.needed] } ∧
        (t.port .b).frame = .idle ∧ (t.port .b).flags = (s.port .b).flags) ∧
    (∀ (o : Op) (item : Word16) (rest : List Word16), s.resetPin = false → s.eng.op = some o → o.kind.isInput = true →
      s.eng.hand = none → s.eng.fifo = item :: rest → (∀ h l, (s.port .b).frame ≠ .holding (.dataByte h l)) →
      exec .itemTake s = .next (s.modEng fun e => { e with hand := some item, fifo := rest }).advanceCaptures) ∧
    (∀ (p : PortId) (bytes : List Byte), s.ready p → (∀ cause, (s.port p).frame ≠ .holding cause) → p ≠ .b ∨ s.feeding = false →
      exec (.data p bytes) s = .next (s.modPort p fun pt =>
        { pt with
          reply := { status := .badCommand, payload := if p = .b then counts else [] }
          code := none, params := [], data := {}, ack := decide (bytes = []) }).advanceCaptures) ∧
    (∀ p : PortId, s.resetPin = false → (s.port p).frame = .write → (s.port p).code = none →
      exec (.writeDataByte p 0x3B) s = .next (s.modPort p fun pt =>
        { pt with code := some 0x3B, ack := true, data := { fed := decide (p = .b ∧ s.feeding = true) } }).advanceCaptures) ∧
    (∀ (p : PortId) (b : Byte), s.resetPin = false → (s.port p).frame = .write → (s.port p).code = some 0x3B →
      let d := (s.port p).data
      let answered := fun t : State => exec (.writeDataByte p b) s = .next t.advanceCaptures
      (d.fed = false → answered (s.modPort p (refused .badCommand))) ∧
      (d.fed = true → d.high = none →
        (d.full = true ∨ (∃ o, s.eng.op = some o ∧ o.kind.isInput = true ∧ o.needed ≤ o.accepted) →
          answered (s.modPort p (refused .badParam))) ∧
        (d.full = false → (∀ o, s.eng.op = some o → o.kind.isInput = true → o.accepted < o.needed) →
          answered (s.modPort p fun pt => { pt with ack := true, data := { pt.data with high := some b } }))) ∧
      ∀ h, d.fed = true → d.high = some h →
        (s.feeding = false → answered (s.modPort p (refused .badCommand))) ∧
        ∀ o, s.eng.op = some o → o.feeding = true →
          (s.eng.fifo.length < 16 →
            answered ((s.modEng fun _ => joined o (word16 h b) s.eng.fifo).modPort p (acked o))) ∧
          (16 ≤ s.eng.fifo.length → (s.portCfg p).holds = true → answered (s.modPort p fun pt =>
            { pt with frame := .holding (.dataByte h b), ack := false, hold := .running (s.portCfg p).holdMax })) ∧
          (16 ≤ s.eng.fifo.length → (s.portCfg p).holds = false → answered (s.modPort p (refused .busy)))) ∧
    (∀ p : PortId, s.ready p → (s.port p).frame = .write ∨ (s.port p).frame = .ignoring → (s.port p).code = some 0x3B →
      let d := (s.port p).data
      let t := s.replied p
        { status := d.refusal.getD (if d.fed then .ok else .badCommand), payload := if p = .b then counts else [] }
      exec (.portStop p) s =
          .next (t.modPort p fun pt => { pt with frame := .idle, awaiting := false }).advanceCaptures ∧
        ∀ e, e = Instr.portRestart p ∨ e = Instr.portStart p → exec e s = .next (t.modPort p fun pt =>
          { pt with
            frame := .idle, awaiting := true, frameAddr := (s.portCfg p).addr
            frameMask := (s.portCfg p).mask }).advanceCaptures) ∧
    ∀ (o : Op) (h l : Byte) (item : Word16) (rest : List Word16), s.resetPin = false → s.eng.op = some o →
      o.kind.isInput = true → s.eng.hand = none → s.eng.fifo = item :: rest → (s.port .b).frame = .holding (.dataByte h l) →
      (o.feeding = true → exec .itemTake s = .next ((s.modEng fun _ =>
        { joined o (word16 h l) rest with hand := some item }).modPort .b fun pt =>
          { acked o pt with hold := .stopped }).advanceCaptures) ∧
      (o.feeding = false → exec .itemTake s = .next ((s.modEng fun e => { e with hand := some item, fifo := rest }).modPort .b
        fun pt => { refused .badCommand pt with hold := .stopped }).advanceCaptures)

/-- READ_ITEM_PRODUCE and DRAIN (R152, R153, R156): an item is captured at its own visit and joins the FIFO; a DRAIN takes up to
16 of the oldest, and the one that takes the last of N ends the READ. DRAIN is refused when no READ is in progress. -/
def Obligations.ReadItemsAreProducedAndDrained : Prop :=
  ∀ s : State,
    (∀ (o : Op) (kind : Fin 4), s.resetPin = false → s.eng.op = some o → o.kind = .read kind → o.k < o.n →
      s.eng.fifo.length < 16 →
      let i := s.eng.window.slotOf o.k
      let item : Word16 :=
        if (s.vent i).mapped = true then
          BitVec.ofNat 16 (match kind with
            | 0 => (s.slot i).target.getD 0xFFFE
            | 1 => (s.slot i).position.getD 0xFFFE
            | 2 => (s.slot i).bms.getD 0xFFFE
            | 3 => (s.slot i).motion.code * 4096 + (s.slot i).link.code * 256 + (s.slot i).fault.code)
        else 0xFFFF
      exec .readItemProduce s =
        .next (s.modEng fun e =>
          { e with
            fifo := e.fifo ++ [item], op := some { o with k := o.k + 1 }, remaining := e.remaining - 1
            written := e.written + (if (s.vent i).mapped then 1 else 0)
            skipped := e.skipped + (if (s.vent i).mapped then 0 else 1) }).advanceCaptures) ∧
    (s.ready .b → s.mode = .run → (∀ o kind, s.eng.op = some o → o.kind ≠ .read kind) →
      exec (.drain .b) s = .next (s.replied .b { status := .badCommand }).advanceCaptures) ∧
    ∀ (o : Op) (kind : Fin 4), s.ready .b → s.mode = .run → s.eng.op = some o → o.kind = .read kind →
      let out := s.eng.fifo.take 16
      let reply : Reply :=
        { status := .ok, payload := [BitVec.ofNat 8 out.length] ++ out.flatMap fun v => bytes16 v.toNat }
      (o.k < o.n ∨ s.eng.fifo = [] ∨ 16 < s.eng.fifo.length → exec (.drain .b) s =
        .next ((s.modEng fun e => { e with fifo := e.fifo.drop 16 }).replied .b reply).advanceCaptures) ∧
      (o.n ≤ o.k → s.eng.fifo ≠ [] → s.eng.fifo.length ≤ 16 → exec (.drain .b) s =
        .next (((s.modEng fun e =>
          { e with
            op := none, hand := none, snapshot := [], fifo := [], feed := .stopped, outcome := .complete
            due := .none }).modPort .b (Port.raise .opDone)).replied .b reply).advanceCaptures)

/-- OP_ABORT (R154) and FEED_TIMER_EXPIRY (R151), by the operation in progress: an operation that takes no items ends at once;
one that is FEEDING goes on with the items it holds and ends when there are none; one that is RUNNING keeps a
TRUNCATED_TIMEOUT that is due. -/
def Obligations.AbortAndFeedTimeout : Prop :=
  ∀ s : State,
    let ended := fun (out : EngOutcome) (e : Engine) =>
      { e with
        op := none, hand := none, snapshot := [], fifo := [], feed := .stopped, outcome := out, due := .none }
    (s.ready .b → s.mode = .run →
      (s.eng.op = none → exec (.opAbort .b) s = .next (s.replied .b {}).advanceCaptures) ∧
      ∀ o, s.eng.op = some o →
        (o.kind.isInput = false → exec (.opAbort .b) s =
          .next (((s.modEng (ended .truncatedAbort)).modPort .b (Port.raise .opDone)).replied .b {}).advanceCaptures) ∧
        (o.kind.isInput = true → o.feeding = true → s.eng.fifo ≠ [] ∨ s.eng.hand ≠ none → exec (.opAbort .b) s =
          .next ((s.modEng fun e =>
            { e with
              op := some { o with feeding := false }, feed := .stopped, due := .truncatedAbort }).replied .b
                {}).advanceCaptures) ∧
        (o.kind.isInput = true → o.feeding = true → s.eng.fifo = [] → s.eng.hand = none → exec (.opAbort .b) s =
          .next (((s.modEng (ended .truncatedAbort)).modPort .b (Port.raise .opDone)).replied .b {}).advanceCaptures) ∧
        (o.kind.isInput = true → o.feeding = false → exec (.opAbort .b) s =
          .next ((s.modEng fun e =>
            { e with due := if e.due = .complete then .truncatedAbort else e.due }).replied .b {}).advanceCaptures)) ∧
    ∀ (o : Op) (ms : Nat), s.resetPin = false → s.eng.op = some o → o.kind.isInput = true → s.eng.feed = .running ms →
      (s.eng.fifo ≠ [] ∨ s.eng.hand ≠ none → exec .feedTimerExpiry s =
        .next (s.modEng fun e =>
          { e with
            op := some { o with feeding := false }, feed := .stopped, due := .truncatedTimeout }).advanceCaptures) ∧
      (s.eng.fifo = [] → s.eng.hand = none → exec .feedTimerExpiry s =
        .next ((s.modEng (ended .truncatedTimeout)).modPort .b (Port.raise .opDone)).advanceCaptures)

/-! ## Configuration (chapter 9) -/

/-- CFG_WRITE and CFG_READ (R169–R171): CFG_WRITE is LOCKED in RUN, is refused with BAD_PARAM when the table write has no result
(out of range), and otherwise stores that result; CFG_READ answers with the record the table read gives, or BAD_PARAM. Which
tables and indexes there are, and the length of each record; a write of another length has no result. What the records hold is
StoredRecordsReadBack. -/
def Obligations.ConfigurationIsWrittenAndRead : Prop :=
  ∀ (table : Byte) (index : Word16) (bytes : List Byte) (s : State), s.ready .b →
    (s.mode = .run →
      exec (.cfgWrite .b table index bytes) s = .next (s.replied .b { status := .locked }).advanceCaptures) ∧
    (s.mode = .unconfigured → s.tables.write table index bytes = none →
      exec (.cfgWrite .b table index bytes) s = .next (s.replied .b { status := .badParam }).advanceCaptures) ∧
    (∀ new, s.mode = .unconfigured → s.tables.write table index bytes = some new →
      exec (.cfgWrite .b table index bytes) s =
        .next (({ s with tables := new } : State).replied .b {}).advanceCaptures) ∧
    (s.tables.read table index = none →
      exec (.cfgRead .b table index) s = .next (s.replied .b { status := .badParam }).advanceCaptures) ∧
    (∀ record, s.tables.read table index = some record →
      exec (.cfgRead .b table index) s = .next (s.replied .b { status := .ok, payload := record }).advanceCaptures) ∧
    let n := index.toNat
    let size : Option Nat := match table.toNat with
      | 0 => if n < 192 then some 17 else none
      | 1 => if n < 1536 then some 4 else none
      | 2 => if n < 8 then some 5 else none
      | 3 => if n < 64 then some 1 else none
      | 4 => if n < 4 then some 11 else none
      | 5 => if n = 0 then some 15 else none
      | 6 => if n < 3 then some 7 else none
      | 7 => if n < 3 then some 1 else none
      | _ => none
    (s.tables.read table index).map List.length = size ∧
      (size ≠ some bytes.length → s.tables.write table index bytes = none)

/-- The eight records (R3, R10, R33, R48, R49, R67, R104, R116, R157, R169–R171, R177). CFG_WRITE stores the fields its bytes
carry, high byte first, or nothing when one is out of range: mapped = no gives the hardware-reset values, unchecked; K_fire below
K_norm and V_off above V_on are written as K_norm and V_on, whatever their own ranges; bits 10–15 of the
enables and bits 6–7 of a POLICY are ignored. CFG_READ gives the bytes of the stored fields. A record that was accepted reads
back as stored, writing what was read stores the same record again, and every other record stands. -/
def Obligations.StoredRecordsReadBack : Prop :=
  (∀ (t t' : Tables) (table : Byte) (index : Word16) (bytes : List Byte), t.write table index bytes = some t' →
    (∃ stored, t'.read table index = some stored ∧ stored.length = bytes.length ∧ t'.write table index stored = some t' ∧
      t.write table index stored = some t') ∧
    ∀ table' index', table' ≠ table ∨ index' ≠ index → t'.read table' index' = t.read table' index') ∧
  ∀ (t : Tables) (index : Word16),
    let two := fun (hi lo : Byte) => hi.toNat * 256 + lo.toNat
    let yes := fun b : Byte => decide (b = 1)
    (∀ (i : SlotId) (m ln bus cl zn fh fl ah al db rh rl th tl gh gl br : Byte), index.toNat = i.val →
      let bytes := [m, ln, bus, cl, zn, fh, fl, ah, al, db, rh, rl, th, tl, gh, gl, br]
      let v := t.vents[i]
      (m = 0 → t.write 0 index bytes = some { t with vents := t.vents.set i {} }) ∧
      (1 < m.toNat ∨ m = 1 ∧ (3 < ln.toNat ∨ bus.toNat < 1 ∨ 48 < bus.toNat ∨ 2 < cl.toNat ∨ 7 < zn.toNat ∨
        3599 < two fh fl ∧ two fh fl < 65535 ∨ two ah al < 1 ∨ 5000 < two ah al ∨ 50 < db.toNat ∨ 1000 < two rh rl ∨
        two th tl < 5 ∨ 600 < two th tl ∨ 1 < br.toNat) → t.write 0 index bytes = none) ∧
      (∀ (line : LineId) (cls : VentClass) (zone : ZoneId) (facing : Facing), m = 1 → LineId.code line = ln.toNat →
        cls.code = cl.toNat → zone.val = zn.toNat →
        (facing = .flat ∧ two fh fl = 65535 ∨ two fh fl ≤ 3599 ∧ facing = .angle (two fh fl)) →
        1 ≤ bus.toNat → bus.toNat ≤ 48 → 1 ≤ two ah al → two ah al ≤ 5000 → db.toNat ≤ 50 → two rh rl ≤ 1000 →
        5 ≤ two th tl → two th tl ≤ 600 → br.toNat ≤ 1 →
        t.write 0 index bytes = some { t with vents := (t.vents.set i
          { mapped := true, line := line, bus := bus.toNat, cls := cls, zone := zone, facing := facing, freeArea := two ah al
            deadband := db.toNat, rest := two rh rl, travelLimit := two th tl, tag := BitVec.ofNat 16 (two gh gl)
            bcastRefuse := yes br }) }) ∧
      t.read 0 index = some
        ([bit v.mapped, LineId.code v.line, v.bus, v.cls.code, v.zone.val].map (BitVec.ofNat 8) ++
          bytes16 (match v.facing with | .flat => 65535 | .angle a => a) ++ bytes16 v.freeArea ++ [BitVec.ofNat 8 v.deadband] ++
          bytes16 v.rest ++ bytes16 v.travelLimit ++ bytes16 v.tag.toNat ++ [BitVec.ofNat 8 (bit v.bcastRefuse)])) ∧
    (∀ (i : SlotId) (e : Fin 8) (a vh vl valid : Byte), index.toNat = i.val * 8 + e.val →
      let p := t.profiles[i][e]
      (1 < valid.toNat → t.write 1 index [a, vh, vl, valid] = none) ∧
      (valid.toNat ≤ 1 → t.write 1 index [a, vh, vl, valid] = some { t with profiles := (t.profiles.set i
        ((t.profiles[i]).set e { attrId := a, value := BitVec.ofNat 16 (two vh vl), valid := yes valid })) }) ∧
      t.read 1 index = some ([p.attrId] ++ bytes16 p.value.toNat ++ [BitVec.ofNat 8 (bit p.valid)])) ∧
    (∀ (z : ZoneId) (ah al dh dl w : Byte), index.toNat = z.val →
      (two dh dl < 10 ∨ 300 < two dh dl ∨ 1 < w.toNat → t.write 2 index [ah, al, dh, dl, w] = none) ∧
      (10 ≤ two dh dl → two dh dl ≤ 300 → w.toNat ≤ 1 → t.write 2 index [ah, al, dh, dl, w] = some
        { t with zones := t.zones.set z { areq := two ah al, deadline := two dh dl, windSelect := yes w } }) ∧
      t.read 2 index = some
        (bytes16 (t.zones[z]).areq ++ bytes16 (t.zones[z]).deadline ++ [BitVec.ofNat 8 (bit (t.zones[z]).windSelect)])) ∧
    (∀ (a z : ZoneId) (b : Byte), index.toNat = a.val * 8 + z.val →
      (3 < b.toNat → t.write 3 index [b] = none) ∧
      (∀ action : Action, action.code = b.toNat →
        t.write 3 index [b] = some { t with plan := t.plan.set a ((t.plan[a]).set z action) }) ∧
      t.read 3 index = some [BitVec.ofNat 8 (t.plan[a][z]).code]) ∧
    (∀ (l : Fin 4) (kn kf mp rd wt tc att ip pr fl rc : Byte), index.toNat = l.val →
      let bytes := [kn, kf, mp, rd, wt, tc, att, ip, pr, fl, rc]
      let good := (1 ≤ kn.toNat ∧ kn.toNat ≤ 8) ∧ kf.toNat ≤ 16 ∧ (1 ≤ mp.toNat ∧ mp.toNat ≤ 10) ∧
        rd.toNat ≤ 50 ∧ wt.toNat ≤ 50 ∧ tc.toNat ≤ 15 ∧ (1 ≤ att.toNat ∧ att.toNat ≤ 4) ∧
        (1 ≤ ip.toNat ∧ ip.toNat ≤ 60) ∧ (2 ≤ pr.toNat ∧ pr.toNat ≤ 60) ∧ 2 ≤ fl.toNat ∧ fl.toNat ≤ 8
      let c := t.lines[l]
      (¬ good → t.write 4 index bytes = none) ∧
      (good → t.write 4 index bytes = some { t with lines := (t.lines.set l
        { kNorm := kn.toNat, kFire := if kf.toNat < kn.toNat then kn.toNat else kf.toNat, movePoll := mp.toNat
          revDwell := rd.toNat, wakeTime := wt.toNat, timeoutCode := tc.toNat, attempts := att.toNat, idlePoll := ip.toNat
          probe := pr.toNat, failLimit := fl.toNat, resetCode := rc.toNat }) }) ∧
      t.read 4 index = some ([c.kNorm, c.kFire, c.movePoll, c.revDwell, c.wakeTime, c.timeoutCode, c.attempts, c.idlePoll,
        c.probe, c.failLimit, c.resetCode].map (BitVec.ofNat 8))) ∧
    (∀ st k onh onl offh offl sh sl rh ch cl wh wl lh ll : Byte, index = 0 →
      let bytes := [st, k, onh, onl, offh, offl, sh, sl, rh, ch, cl, wh, wl, lh, ll]
      let good := (2 ≤ st.toNat ∧ st.toNat ≤ 30) ∧ k.toNat ≤ 4 ∧ two onh onl ≤ 600 ∧ two sh sl ≤ 600 ∧
        two ch cl ≤ 1000 ∧ two wh wl ≤ 900 ∧ two lh ll ≤ 900
      let c := t.weather
      (¬ good → t.write 5 index bytes = none) ∧
      (good → t.write 5 index bytes = some { t with weather := (
        { staleTime := st.toNat, k := k.toNat, vOn := two onh onl
          vOff := if two onh onl < two offh offl then two onh onl else two offh offl, vStorm := two sh sl
          rainHold := rh.toNat, cWind := two ch cl, wHalf := two wh wl, lHalf := two lh ll } : WeatherCfg) }) ∧
      t.read 5 index = some ([BitVec.ofNat 8 c.staleTime, BitVec.ofNat 8 c.k] ++ bytes16 c.vOn ++ bytes16 c.vOff ++
        bytes16 c.vStorm ++ [BitVec.ofNat 8 c.rainHold] ++ bytes16 c.cWind ++ bytes16 c.wHalf ++ bytes16 c.lHalf)) ∧
    (∀ (p : Fin 3) (a m h hm eh el ps : Byte), index.toNat = p.val →
      let bytes := [a, m, h, hm, eh, el, ps]
      let c := t.ports[p]
      (127 < a.toNat ∨ 127 < m.toNat ∨ 1 < h.toNat ∨ hm.toNat < 1 ∨ 100 < hm.toNat ∨ 3 < ps.toNat →
        t.write 6 index bytes = none) ∧
      (∀ policy : Fin 4, a.toNat ≤ 127 → m.toNat ≤ 127 → h.toNat ≤ 1 → 1 ≤ hm.toNat → hm.toNat ≤ 100 →
        policy.val = ps.toNat → t.write 6 index bytes = some { t with ports := (t.ports.set p
          { addr := BitVec.ofNat 7 a.toNat, mask := BitVec.ofNat 7 m.toNat, holds := yes h, holdMax := hm.toNat
            enables := BitVec.ofNat 16 (two eh el % 1024), policy := policy }) }) ∧
      t.read 6 index = some ([c.addr.toNat, c.mask.toNat, bit c.holds, c.holdMax].map (BitVec.ofNat 8) ++
        bytes16 c.enables.toNat ++ [BitVec.ofNat 8 c.policy.val])) ∧
    ∀ (q : Fin 3) (b : Byte), index.toNat = q.val →
      let c := t.policies[q]
      t.write 7 index [b] = some { t with policies := (t.policies.set q
        { claimSv := b.getLsbD 0, claimCw := b.getLsbD 1, claimIw := b.getLsbD 2, clearSv := b.getLsbD 3
          clearCw := b.getLsbD 4, clearIw := b.getLsbD 5 }) } ∧
      t.read 7 index = some [BitVec.ofNat 8 (bit c.claimSv + 2 * bit c.claimCw + 4 * bit c.claimIw + 8 * bit c.clearSv +
        16 * bit c.clearCw + 32 * bit c.clearIw)]

/-- CFG_DONE (R6, R172): LOCKED in RUN; BAD_CONFIG with the first slot that shares line and bus address with a mapped slot of a
lower index; otherwise the part, standing as it does while UNCONFIGURED, enters RUN. Every mapped slot is DETACHED, OFFLINE, CALM
with ceiling 0, probed and composed (R14, R92, R113, R125, R134); a PROBE for every member is placed, and the first is sent at
once (notes/assumptions/9.md). The zone actions come from the recorded alarm list, with the timer, latch, status and sums of an
EXHAUST zone (R51, R52, R55, R61); the permit limit follows the list (R64). ZONE is raised if a zone has an action (the model's
choice, notes/assumptions/25.md); nothing else changes. Before and after, a slot has no direction recorded and no deferred mark
(the model's choice, notes/assumptions/7.md). -/
def Obligations.ConfigurationDoneEntersRun : Prop :=
  ∀ s : State, s.ready .b →
    let clash := fun i : SlotId => (s.vent i).mapped = true ∧
      ∃ j, j < i ∧ (s.vent j).mapped = true ∧ (s.vent j).line = (s.vent i).line ∧ (s.vent j).bus = (s.vent i).bus
    (s.mode = .run → exec (.cfgDone .b) s = .next (s.replied .b { status := .locked }).advanceCaptures) ∧
    (∀ i, s.mode = .unconfigured → clash i → (∀ j, j < i → ¬ clash j) →
      exec (.cfgDone .b) s =
        .next (s.replied .b { status := .badConfig, payload := [BitVec.ofNat 8 i.val] }).advanceCaptures) ∧
    (s.mode = .unconfigured → (∀ i, ¬ clash i) → s.FreshOk →
      ∃ t u, exec (.cfgDone .b) s = .next t ∧
        u = { s with mode := .run, slots := t.slots, zones := t.zones, motion := t.motion, dlc := t.dlc } ∧
        t = ((u.raiseIf (decide (∃ z, s.deriveAction s.alarms z ≠ .none)) .zone).replied .b {}).advanceCaptures ∧
        (∀ z, t.zone z =
          if s.deriveAction s.alarms z = .exhaust then
            { action := .exhaust, timer := .running ((s.zoneCfg z).deadline * 1000), latch := decide (0 < (s.zoneCfg z).areq)
              status := if (s.zoneCfg z).areq = 0 then .confirmed else .opening, avail := 0, conf := 0
              override := (s.zone z).override }
          else { action := s.deriveAction s.alarms z, override := (s.zone z).override }) ∧
        (∀ l, t.mline l = { fireLimit := decide (s.alarms ≠ []) } ∧
          t.dline l =
            { queue := (s.lineMembers l).tail.map Trans.probe
              flight := (s.lineMembers l).head?.map fun i => { trans := .probe i } }) ∧
        (∀ i, (s.vent i).mapped = false → t.slot i = {}) ∧
        ∀ i, (s.vent i).mapped = true →
          t.slot i =
              { motion := .detached, permit := false, link := .offline, position := none, flags := 0
                probe := .running ((s.lineCfg (s.vent i).line).probe * 1000), bms := none, hold := none
                windClass := classify s.tables.weather s.wx (s.vent i).facing
                ceiling := ceilingOf s.tables.weather s.wx (classify s.tables.weather s.wx (s.vent i).facing)
                fire := t.fireValueOf i, source := (t.slot i).source, target := (t.slot i).target } ∧
            (t.slot i).windClass = .calm ∧ (t.slot i).ceiling = 0 ∧
            ((t.slot i).source, (t.slot i).target) = t.composedOf i)

/-- WARM_RESTART (R14, R27, R113, R133, R155, R157, R174): tables, mode, alarm list, weather and every zone's action, timer and
override mode are kept, and so are each slot's hold capture, wind class and ceiling; every mapped slot loses its BMS entry and its
link and is DETACHED, with every timer stopped but the probe timer, which starts unless its line is in LRESET; the permit pools
and queues are empty, with limit and power state kept; the controllers re-probe after a STOP_ALL; an operation ends
TRUNCATED_RESTART; RESTART is raised; the frames in progress on the ports stand, as do their error counts. -/
def Obligations.WarmRestartKeepsTheConfiguration : Prop :=
  ∀ s : State, s.ready .b → s.mode = .run →
    ∃ t, exec (.warmRestart .b) s = .next t ∧
      t.mode = .run ∧ t.tables = s.tables ∧ t.alarms = s.alarms ∧ t.wx = s.wx ∧ t.resetPin = false ∧ t.pending = s.pending ∧
      (∀ p, t.port p =
        { (if p = .b then { s.port p with reply := {}, code := none, params := [], data := {} } else s.port p) with
          flags := (t.port p).flags, prep := (t.port p).prep } ∧
          (t.port p).prep.isSome = (s.port p).prep.isSome ∧ (t.port p).notice .restart = true ∧
          ∀ k, (s.port p).notice k = true → (t.port p).notice k = true) ∧
      (∀ z, (t.zone z).unsummed = (s.zone z).unsummed) ∧
      (∀ l, t.mline l = { s.mline l with holders := [], queue := [], entryCount := 0, preempting := 0 }) ∧
      (∀ i, (s.vent i).mapped = true →
        (t.slot i).bms = none ∧ (t.slot i).link = .offline ∧ (t.slot i).position = none ∧ (t.slot i).flags = 0 ∧
          (t.slot i).motion = .detached ∧ (t.slot i).fault = .none ∧ (t.slot i).permit = false ∧
          (t.slot i).fire = t.fireValueOf i ∧ ((t.slot i).source, (t.slot i).target) = t.composedOf i ∧
          (t.slot i).hold = (s.slot i).hold ∧ (t.slot i).windClass = (s.slot i).windClass ∧
          (t.slot i).ceiling = (s.slot i).ceiling ∧ (t.slot i).travel = .stopped ∧ (t.slot i).poll = .stopped ∧
          (t.slot i).dwell = .stopped ∧ (t.slot i).idlePoll = .stopped ∧ (t.slot i).probe =
            if (s.dline (s.vent i).line).state = .lreset then .stopped
            else .running ((s.lineCfg (s.vent i).line).probe * 1000)) ∧
      (∀ i, (s.vent i).mapped = false → t.slot i = s.slot i) ∧
      (∀ l, (t.dline l).failures = 0 ∧ (t.dline l).state = (s.dline l).state ∧
        ((s.dline l).state = .lreset → (t.dline l).queue = [] ∧ (t.dline l).owed = true) ∧
        ((s.dline l).state = .run → (t.dline l).owed = false ∧
          (t.dline l).queue =
            (if (s.dline l).flight = none then [] else [.stopAll]) ++ (s.lineMembers l).map Trans.probe ∧
          (t.dline l).flight =
            match (s.dline l).flight with
            | none => some { trans := .stopAll }
            | some f => some { f with abandoned := true })) ∧
      (s.eng.op = none → t.eng = s.eng) ∧
      (s.eng.op ≠ none → t.eng =
        { s.eng with
          op := none, hand := none, snapshot := [], fifo := [], feed := .stopped, outcome := .truncatedRestart
          due := .none } ∧ (t.port .b).notice .opDone = true)

/-! ## Laws of the part -/

/-- The tables and the mode change only at a hardware reset, or while UNCONFIGURED, at a CFG_WRITE on PORT-B, which keeps the mode,
or a CFG_DONE on PORT-B, which keeps the tables and enters RUN; each given whole or as the end of a PORT-B write frame that
carries its code (R160, R168–R170, R172, R173). -/
def Obligations.OnlyConfigurationChangesTablesAndMode : Prop :=
  ∀ s t : State, step s = .next t → (t.tables ≠ s.tables ∨ t.mode ≠ s.mode) →
    ∃ c rest, s.pending = c :: rest ∧
      let frameEnd := fun code : Byte => (c = .portStop .b ∨ c = .portRestart .b ∨ c = .portStart .b) ∧
        (s.port .b).frame = .write ∧ (s.port .b).code = some code
      ((∃ strap, c = .hardwareReset strap) ∧ t.mode = .unconfigured ∨
        s.mode = .unconfigured ∧ s.resetPin = false ∧
          (((∃ table index bytes, c = .cfgWrite .b table index bytes) ∨ frameEnd 0x50) ∧ t.mode = .unconfigured ∨
            (c = .cfgDone .b ∨ frameEnd 0x52) ∧ t.tables = s.tables ∧ t.mode = .run))

/-- The law of the Window Engine is kept by every step (R140, R148, R150): the FIFO holds at most 16 items and only those of the
operation in progress, steps visited and remaining add up to N, and every item accepted is applied once. -/
def Obligations.EngineLawIsKeptByEveryStep : Prop :=
  ∀ s t : State, s.eng.Ok → step s = .next t → t.eng.Ok

/-- The laws of the alarm list, the smoothed weather and the zones are kept by every step (R42, R61, R78–R80, R83). So is the law
of the links (R127): a slot becomes ONLINE only from OFFLINE with no valid profile entry, or from PROFILING when the reply to the
PROFILE of its last valid entry ends; and in PROFILING it goes through its valid entries in order, each at the reply to the
PROFILE of the one before. And so is the law of the areas (R54, R55, R59, R61): in RUN, after every event, a zone's available and
confirmed areas are the sums its members give, and an EXHAUST zone's latch and status follow from them. -/
def Obligations.ZoneAndWeatherLawsAreKeptByEveryStep : Prop :=
  (∀ s t : State, s.AlarmsOk → s.wx.Ok → s.tables.weather.rainHold ≤ 255 → (∀ z, (s.zone z).Ok) → step s = .next t →
    t.AlarmsOk ∧ t.wx.Ok ∧ t.tables.weather.rainHold ≤ 255 ∧ ∀ z, (t.zone z).Ok) ∧
  (∀ s t : State, s.FreshOk → s.QueueOk → s.TimersOk → s.MappedOk → s.AreasOk → step s = .next t → t.AreasOk) ∧
  ∀ s t : State, s.FreshOk → s.MappedOk → s.ProfileOk → step s = .next t →
    t.ProfileOk ∧
    ∀ i, let answered := fun e : Fin 8 => (s.slot i).link = .profiling ∧ (s.slot i).profileNext = some e ∧
          ∃ f, (s.dline (s.vent i).line).flight = some f ∧ f.abandoned = false ∧ f.trans = .profile i e
      ((t.slot i).link = .online → (s.slot i).link ≠ .online →
        (s.slot i).link = .offline ∧ (∀ e, s.validEntry i e = false) ∨
          ∃ e, answered e ∧ ∀ d, e < d → s.validEntry i d = false) ∧
      ∀ n, (t.slot i).link = .profiling → (t.slot i).profileNext = some n →
        ((s.slot i).link = .profiling ∧ (s.slot i).profileNext = some n) ∨
          (s.validEntry i n = true ∧ (s.slot i).link ≠ .profiling ∧ ∀ d, d < n → s.validEntry i d = false) ∨
          (s.validEntry i n = true ∧ ∃ e, answered e ∧ e < n ∧ ∀ d, e < d → d < n → s.validEntry i d = false)

/-- The laws of the permits are kept by every step. An entry of a permit queue is a QUEUED slot of its line and stands once, and a
QUEUED slot is in its own line's queue (R106); a permit is held exactly in STARTING, MOVING, STOPPING and DWELL, by a holder of
its line (R92–R101, the table of 5.2); the travel and poll timers run only in MOVING and a dwell timer only in DWELL (R97, R101);
while UNCONFIGURED the blocks stand as a reset leaves them (R14, R113, R115); and an unmapped slot stays as it is, without a
transaction (R2, R12). So is the second law of R107: a MOVE is pending or being sent, not withdrawn and not abandoned, only for a
slot that holds a permit on an ACTIVE line; and a line in STANDBY or WAKING holds no permits (R109). And a queue stays ordered by permit class and, within a class, by entry
time (R106). (AreasOk, kept by ZoneAndWeatherLawsAreKeptByEveryStep, is a premise: a fault clear then sets no latch. What a
reset leaves a slot's recorded direction and deferred mark at is the model's choice, notes/assumptions/7.md.) -/
def Obligations.PermitQueueLawIsKeptByEveryStep : Prop :=
  ∀ s t : State, s.QueueOk → s.TimersOk → s.FreshOk → s.PermitOk → s.MappedOk → s.AreasOk → step s = .next t →
    t.QueueOk ∧ t.TimersOk ∧ t.FreshOk ∧ t.PermitOk ∧ t.MappedOk ∧ (s.MovesOk → t.MovesOk) ∧ (s.OrderOk → t.OrderOk)

/-- The laws hold right after reset. (That a slot has no direction recorded and no deferred mark then, a part of two of them, is
the model's choice, notes/assumptions/7.md.) -/
def Obligations.LawsHoldAtReset : Prop :=
  State.reset.eng.Ok ∧ State.reset.AlarmsOk ∧ State.reset.wx.Ok ∧ State.reset.tables.weather.rainHold ≤ 255 ∧
    (∀ z, (State.reset.zone z).Ok) ∧ State.reset.QueueOk ∧ State.reset.TimersOk ∧ State.reset.FreshOk ∧
    State.reset.PermitOk ∧ State.reset.MappedOk ∧ State.reset.ProfileOk ∧ State.reset.ComposedOk ∧ State.reset.MovesOk ∧
    State.reset.OrderOk ∧ State.reset.AreasOk ∧
    ∀ l, (State.reset.lineCfg l).kNorm ≤ (State.reset.lineCfg l).kFire ∧
      (State.reset.mline l).holders.length ≤ (State.reset.lineCfg l).kFire
end

