-- ==== Sys2Proof/Laws/State.lean ====
section
/-!
SUPPORT. One lemma for each field and each reader under each named update of the state, all true by computation, so that no
later proof unfolds a record update.
-/

namespace Sys2Proof.Machine.State

variable (s : State)

/-! ## modSlot -/

@[simp] theorem modSlot_resetPin (i : SlotId) (f : Slot → Slot) : (s.modSlot i f).resetPin = s.resetPin := rfl
@[simp] theorem modSlot_mode (i : SlotId) (f : Slot → Slot) : (s.modSlot i f).mode = s.mode := rfl
@[simp] theorem modSlot_tables (i : SlotId) (f : Slot → Slot) : (s.modSlot i f).tables = s.tables := rfl
@[simp] theorem modSlot_zones (i : SlotId) (f : Slot → Slot) : (s.modSlot i f).zones = s.zones := rfl
@[simp] theorem modSlot_alarms (i : SlotId) (f : Slot → Slot) : (s.modSlot i f).alarms = s.alarms := rfl
@[simp] theorem modSlot_wx (i : SlotId) (f : Slot → Slot) : (s.modSlot i f).wx = s.wx := rfl
@[simp] theorem modSlot_motion (i : SlotId) (f : Slot → Slot) : (s.modSlot i f).motion = s.motion := rfl
@[simp] theorem modSlot_dlc (i : SlotId) (f : Slot → Slot) : (s.modSlot i f).dlc = s.dlc := rfl
@[simp] theorem modSlot_eng (i : SlotId) (f : Slot → Slot) : (s.modSlot i f).eng = s.eng := rfl
@[simp] theorem modSlot_ports (i : SlotId) (f : Slot → Slot) : (s.modSlot i f).ports = s.ports := rfl
@[simp] theorem modSlot_captures (i : SlotId) (f : Slot → Slot) : (s.modSlot i f).captures = s.captures := rfl
@[simp] theorem modSlot_pending (i : SlotId) (f : Slot → Slot) : (s.modSlot i f).pending = s.pending := rfl
@[simp] theorem modSlot_vent (i : SlotId) (f : Slot → Slot) (j : SlotId) : (s.modSlot i f).vent j = s.vent j := rfl
@[simp] theorem modSlot_zoneCfg (i : SlotId) (f : Slot → Slot) (y : ZoneId) : (s.modSlot i f).zoneCfg y = s.zoneCfg y := rfl
@[simp] theorem modSlot_zone (i : SlotId) (f : Slot → Slot) (y : ZoneId) : (s.modSlot i f).zone y = s.zone y := rfl
@[simp] theorem modSlot_lineCfg (i : SlotId) (f : Slot → Slot) (m : LineId) : (s.modSlot i f).lineCfg m = s.lineCfg m := rfl
@[simp] theorem modSlot_mline (i : SlotId) (f : Slot → Slot) (m : LineId) : (s.modSlot i f).mline m = s.mline m := rfl
@[simp] theorem modSlot_dline (i : SlotId) (f : Slot → Slot) (m : LineId) : (s.modSlot i f).dline m = s.dline m := rfl
@[simp] theorem modSlot_portCfg (i : SlotId) (f : Slot → Slot) (q : PortId) : (s.modSlot i f).portCfg q = s.portCfg q := rfl
@[simp] theorem modSlot_port (i : SlotId) (f : Slot → Slot) (q : PortId) : (s.modSlot i f).port q = s.port q := rfl

/-! ## modZone -/

@[simp] theorem modZone_resetPin (z : ZoneId) (f : Zone → Zone) : (s.modZone z f).resetPin = s.resetPin := rfl
@[simp] theorem modZone_mode (z : ZoneId) (f : Zone → Zone) : (s.modZone z f).mode = s.mode := rfl
@[simp] theorem modZone_tables (z : ZoneId) (f : Zone → Zone) : (s.modZone z f).tables = s.tables := rfl
@[simp] theorem modZone_slots (z : ZoneId) (f : Zone → Zone) : (s.modZone z f).slots = s.slots := rfl
@[simp] theorem modZone_alarms (z : ZoneId) (f : Zone → Zone) : (s.modZone z f).alarms = s.alarms := rfl
@[simp] theorem modZone_wx (z : ZoneId) (f : Zone → Zone) : (s.modZone z f).wx = s.wx := rfl
@[simp] theorem modZone_motion (z : ZoneId) (f : Zone → Zone) : (s.modZone z f).motion = s.motion := rfl
@[simp] theorem modZone_dlc (z : ZoneId) (f : Zone → Zone) : (s.modZone z f).dlc = s.dlc := rfl
@[simp] theorem modZone_eng (z : ZoneId) (f : Zone → Zone) : (s.modZone z f).eng = s.eng := rfl
@[simp] theorem modZone_ports (z : ZoneId) (f : Zone → Zone) : (s.modZone z f).ports = s.ports := rfl
@[simp] theorem modZone_captures (z : ZoneId) (f : Zone → Zone) : (s.modZone z f).captures = s.captures := rfl
@[simp] theorem modZone_pending (z : ZoneId) (f : Zone → Zone) : (s.modZone z f).pending = s.pending := rfl
@[simp] theorem modZone_vent (z : ZoneId) (f : Zone → Zone) (j : SlotId) : (s.modZone z f).vent j = s.vent j := rfl
@[simp] theorem modZone_slot (z : ZoneId) (f : Zone → Zone) (j : SlotId) : (s.modZone z f).slot j = s.slot j := rfl
@[simp] theorem modZone_zoneCfg (z : ZoneId) (f : Zone → Zone) (y : ZoneId) : (s.modZone z f).zoneCfg y = s.zoneCfg y := rfl
@[simp] theorem modZone_lineCfg (z : ZoneId) (f : Zone → Zone) (m : LineId) : (s.modZone z f).lineCfg m = s.lineCfg m := rfl
@[simp] theorem modZone_mline (z : ZoneId) (f : Zone → Zone) (m : LineId) : (s.modZone z f).mline m = s.mline m := rfl
@[simp] theorem modZone_dline (z : ZoneId) (f : Zone → Zone) (m : LineId) : (s.modZone z f).dline m = s.dline m := rfl
@[simp] theorem modZone_portCfg (z : ZoneId) (f : Zone → Zone) (q : PortId) : (s.modZone z f).portCfg q = s.portCfg q := rfl
@[simp] theorem modZone_port (z : ZoneId) (f : Zone → Zone) (q : PortId) : (s.modZone z f).port q = s.port q := rfl

/-! ## modMline -/

@[simp] theorem modMline_resetPin (l : LineId) (f : MotionLine → MotionLine) : (s.modMline l f).resetPin = s.resetPin := rfl
@[simp] theorem modMline_mode (l : LineId) (f : MotionLine → MotionLine) : (s.modMline l f).mode = s.mode := rfl
@[simp] theorem modMline_tables (l : LineId) (f : MotionLine → MotionLine) : (s.modMline l f).tables = s.tables := rfl
@[simp] theorem modMline_slots (l : LineId) (f : MotionLine → MotionLine) : (s.modMline l f).slots = s.slots := rfl
@[simp] theorem modMline_zones (l : LineId) (f : MotionLine → MotionLine) : (s.modMline l f).zones = s.zones := rfl
@[simp] theorem modMline_alarms (l : LineId) (f : MotionLine → MotionLine) : (s.modMline l f).alarms = s.alarms := rfl
@[simp] theorem modMline_wx (l : LineId) (f : MotionLine → MotionLine) : (s.modMline l f).wx = s.wx := rfl
@[simp] theorem modMline_dlc (l : LineId) (f : MotionLine → MotionLine) : (s.modMline l f).dlc = s.dlc := rfl
@[simp] theorem modMline_eng (l : LineId) (f : MotionLine → MotionLine) : (s.modMline l f).eng = s.eng := rfl
@[simp] theorem modMline_ports (l : LineId) (f : MotionLine → MotionLine) : (s.modMline l f).ports = s.ports := rfl
@[simp] theorem modMline_captures (l : LineId) (f : MotionLine → MotionLine) : (s.modMline l f).captures = s.captures := rfl
@[simp] theorem modMline_pending (l : LineId) (f : MotionLine → MotionLine) : (s.modMline l f).pending = s.pending := rfl
@[simp] theorem modMline_vent (l : LineId) (f : MotionLine → MotionLine) (j : SlotId) : (s.modMline l f).vent j = s.vent j := rfl
@[simp] theorem modMline_slot (l : LineId) (f : MotionLine → MotionLine) (j : SlotId) : (s.modMline l f).slot j = s.slot j := rfl
@[simp] theorem modMline_zoneCfg (l : LineId) (f : MotionLine → MotionLine) (y : ZoneId) : (s.modMline l f).zoneCfg y = s.zoneCfg y := rfl
@[simp] theorem modMline_zone (l : LineId) (f : MotionLine → MotionLine) (y : ZoneId) : (s.modMline l f).zone y = s.zone y := rfl
@[simp] theorem modMline_lineCfg (l : LineId) (f : MotionLine → MotionLine) (m : LineId) : (s.modMline l f).lineCfg m = s.lineCfg m := rfl
@[simp] theorem modMline_dline (l : LineId) (f : MotionLine → MotionLine) (m : LineId) : (s.modMline l f).dline m = s.dline m := rfl
@[simp] theorem modMline_portCfg (l : LineId) (f : MotionLine → MotionLine) (q : PortId) : (s.modMline l f).portCfg q = s.portCfg q := rfl
@[simp] theorem modMline_port (l : LineId) (f : MotionLine → MotionLine) (q : PortId) : (s.modMline l f).port q = s.port q := rfl

/-! ## modDline -/

@[simp] theorem modDline_resetPin (l : LineId) (f : DriveLine → DriveLine) : (s.modDline l f).resetPin = s.resetPin := rfl
@[simp] theorem modDline_mode (l : LineId) (f : DriveLine → DriveLine) : (s.modDline l f).mode = s.mode := rfl
@[simp] theorem modDline_tables (l : LineId) (f : DriveLine → DriveLine) : (s.modDline l f).tables = s.tables := rfl
@[simp] theorem modDline_slots (l : LineId) (f : DriveLine → DriveLine) : (s.modDline l f).slots = s.slots := rfl
@[simp] theorem modDline_zones (l : LineId) (f : DriveLine → DriveLine) : (s.modDline l f).zones = s.zones := rfl
@[simp] theorem modDline_alarms (l : LineId) (f : DriveLine → DriveLine) : (s.modDline l f).alarms = s.alarms := rfl
@[simp] theorem modDline_wx (l : LineId) (f : DriveLine → DriveLine) : (s.modDline l f).wx = s.wx := rfl
@[simp] theorem modDline_motion (l : LineId) (f : DriveLine → DriveLine) : (s.modDline l f).motion = s.motion := rfl
@[simp] theorem modDline_eng (l : LineId) (f : DriveLine → DriveLine) : (s.modDline l f).eng = s.eng := rfl
@[simp] theorem modDline_ports (l : LineId) (f : DriveLine → DriveLine) : (s.modDline l f).ports = s.ports := rfl
@[simp] theorem modDline_captures (l : LineId) (f : DriveLine → DriveLine) : (s.modDline l f).captures = s.captures := rfl
@[simp] theorem modDline_pending (l : LineId) (f : DriveLine → DriveLine) : (s.modDline l f).pending = s.pending := rfl
@[simp] theorem modDline_vent (l : LineId) (f : DriveLine → DriveLine) (j : SlotId) : (s.modDline l f).vent j = s.vent j := rfl
@[simp] theorem modDline_slot (l : LineId) (f : DriveLine → DriveLine) (j : SlotId) : (s.modDline l f).slot j = s.slot j := rfl
@[simp] theorem modDline_zoneCfg (l : LineId) (f : DriveLine → DriveLine) (y : ZoneId) : (s.modDline l f).zoneCfg y = s.zoneCfg y := rfl
@[simp] theorem modDline_zone (l : LineId) (f : DriveLine → DriveLine) (y : ZoneId) : (s.modDline l f).zone y = s.zone y := rfl
@[simp] theorem modDline_lineCfg (l : LineId) (f : DriveLine → DriveLine) (m : LineId) : (s.modDline l f).lineCfg m = s.lineCfg m := rfl
@[simp] theorem modDline_mline (l : LineId) (f : DriveLine → DriveLine) (m : LineId) : (s.modDline l f).mline m = s.mline m := rfl
@[simp] theorem modDline_portCfg (l : LineId) (f : DriveLine → DriveLine) (q : PortId) : (s.modDline l f).portCfg q = s.portCfg q := rfl
@[simp] theorem modDline_port (l : LineId) (f : DriveLine → DriveLine) (q : PortId) : (s.modDline l f).port q = s.port q := rfl

/-! ## modPort -/

@[simp] theorem modPort_resetPin (p : PortId) (f : Port → Port) : (s.modPort p f).resetPin = s.resetPin := rfl
@[simp] theorem modPort_mode (p : PortId) (f : Port → Port) : (s.modPort p f).mode = s.mode := rfl
@[simp] theorem modPort_tables (p : PortId) (f : Port → Port) : (s.modPort p f).tables = s.tables := rfl
@[simp] theorem modPort_slots (p : PortId) (f : Port → Port) : (s.modPort p f).slots = s.slots := rfl
@[simp] theorem modPort_zones (p : PortId) (f : Port → Port) : (s.modPort p f).zones = s.zones := rfl
@[simp] theorem modPort_alarms (p : PortId) (f : Port → Port) : (s.modPort p f).alarms = s.alarms := rfl
@[simp] theorem modPort_wx (p : PortId) (f : Port → Port) : (s.modPort p f).wx = s.wx := rfl
@[simp] theorem modPort_motion (p : PortId) (f : Port → Port) : (s.modPort p f).motion = s.motion := rfl
@[simp] theorem modPort_dlc (p : PortId) (f : Port → Port) : (s.modPort p f).dlc = s.dlc := rfl
@[simp] theorem modPort_eng (p : PortId) (f : Port → Port) : (s.modPort p f).eng = s.eng := rfl
@[simp] theorem modPort_captures (p : PortId) (f : Port → Port) : (s.modPort p f).captures = s.captures := rfl
@[simp] theorem modPort_pending (p : PortId) (f : Port → Port) : (s.modPort p f).pending = s.pending := rfl
@[simp] theorem modPort_vent (p : PortId) (f : Port → Port) (j : SlotId) : (s.modPort p f).vent j = s.vent j := rfl
@[simp] theorem modPort_slot (p : PortId) (f : Port → Port) (j : SlotId) : (s.modPort p f).slot j = s.slot j := rfl
@[simp] theorem modPort_zoneCfg (p : PortId) (f : Port → Port) (y : ZoneId) : (s.modPort p f).zoneCfg y = s.zoneCfg y := rfl
@[simp] theorem modPort_zone (p : PortId) (f : Port → Port) (y : ZoneId) : (s.modPort p f).zone y = s.zone y := rfl
@[simp] theorem modPort_lineCfg (p : PortId) (f : Port → Port) (m : LineId) : (s.modPort p f).lineCfg m = s.lineCfg m := rfl
@[simp] theorem modPort_mline (p : PortId) (f : Port → Port) (m : LineId) : (s.modPort p f).mline m = s.mline m := rfl
@[simp] theorem modPort_dline (p : PortId) (f : Port → Port) (m : LineId) : (s.modPort p f).dline m = s.dline m := rfl
@[simp] theorem modPort_portCfg (p : PortId) (f : Port → Port) (q : PortId) : (s.modPort p f).portCfg q = s.portCfg q := rfl

/-! ## modEng -/

@[simp] theorem modEng_resetPin (f : Engine → Engine) : (s.modEng f).resetPin = s.resetPin := rfl
@[simp] theorem modEng_mode (f : Engine → Engine) : (s.modEng f).mode = s.mode := rfl
@[simp] theorem modEng_tables (f : Engine → Engine) : (s.modEng f).tables = s.tables := rfl
@[simp] theorem modEng_slots (f : Engine → Engine) : (s.modEng f).slots = s.slots := rfl
@[simp] theorem modEng_zones (f : Engine → Engine) : (s.modEng f).zones = s.zones := rfl
@[simp] theorem modEng_alarms (f : Engine → Engine) : (s.modEng f).alarms = s.alarms := rfl
@[simp] theorem modEng_wx (f : Engine → Engine) : (s.modEng f).wx = s.wx := rfl
@[simp] theorem modEng_motion (f : Engine → Engine) : (s.modEng f).motion = s.motion := rfl
@[simp] theorem modEng_dlc (f : Engine → Engine) : (s.modEng f).dlc = s.dlc := rfl
@[simp] theorem modEng_ports (f : Engine → Engine) : (s.modEng f).ports = s.ports := rfl
@[simp] theorem modEng_captures (f : Engine → Engine) : (s.modEng f).captures = s.captures := rfl
@[simp] theorem modEng_pending (f : Engine → Engine) : (s.modEng f).pending = s.pending := rfl
@[simp] theorem modEng_vent (f : Engine → Engine) (j : SlotId) : (s.modEng f).vent j = s.vent j := rfl
@[simp] theorem modEng_slot (f : Engine → Engine) (j : SlotId) : (s.modEng f).slot j = s.slot j := rfl
@[simp] theorem modEng_zoneCfg (f : Engine → Engine) (y : ZoneId) : (s.modEng f).zoneCfg y = s.zoneCfg y := rfl
@[simp] theorem modEng_zone (f : Engine → Engine) (y : ZoneId) : (s.modEng f).zone y = s.zone y := rfl
@[simp] theorem modEng_lineCfg (f : Engine → Engine) (m : LineId) : (s.modEng f).lineCfg m = s.lineCfg m := rfl
@[simp] theorem modEng_mline (f : Engine → Engine) (m : LineId) : (s.modEng f).mline m = s.mline m := rfl
@[simp] theorem modEng_dline (f : Engine → Engine) (m : LineId) : (s.modEng f).dline m = s.dline m := rfl
@[simp] theorem modEng_portCfg (f : Engine → Engine) (q : PortId) : (s.modEng f).portCfg q = s.portCfg q := rfl
@[simp] theorem modEng_port (f : Engine → Engine) (q : PortId) : (s.modEng f).port q = s.port q := rfl

/-! ## modWx -/

@[simp] theorem modWx_resetPin (f : Weather → Weather) : (s.modWx f).resetPin = s.resetPin := rfl
@[simp] theorem modWx_mode (f : Weather → Weather) : (s.modWx f).mode = s.mode := rfl
@[simp] theorem modWx_tables (f : Weather → Weather) : (s.modWx f).tables = s.tables := rfl
@[simp] theorem modWx_slots (f : Weather → Weather) : (s.modWx f).slots = s.slots := rfl
@[simp] theorem modWx_zones (f : Weather → Weather) : (s.modWx f).zones = s.zones := rfl
@[simp] theorem modWx_alarms (f : Weather → Weather) : (s.modWx f).alarms = s.alarms := rfl
@[simp] theorem modWx_motion (f : Weather → Weather) : (s.modWx f).motion = s.motion := rfl
@[simp] theorem modWx_dlc (f : Weather → Weather) : (s.modWx f).dlc = s.dlc := rfl
@[simp] theorem modWx_eng (f : Weather → Weather) : (s.modWx f).eng = s.eng := rfl
@[simp] theorem modWx_ports (f : Weather → Weather) : (s.modWx f).ports = s.ports := rfl
@[simp] theorem modWx_captures (f : Weather → Weather) : (s.modWx f).captures = s.captures := rfl
@[simp] theorem modWx_pending (f : Weather → Weather) : (s.modWx f).pending = s.pending := rfl
@[simp] theorem modWx_vent (f : Weather → Weather) (j : SlotId) : (s.modWx f).vent j = s.vent j := rfl
@[simp] theorem modWx_slot (f : Weather → Weather) (j : SlotId) : (s.modWx f).slot j = s.slot j := rfl
@[simp] theorem modWx_zoneCfg (f : Weather → Weather) (y : ZoneId) : (s.modWx f).zoneCfg y = s.zoneCfg y := rfl
@[simp] theorem modWx_zone (f : Weather → Weather) (y : ZoneId) : (s.modWx f).zone y = s.zone y := rfl
@[simp] theorem modWx_lineCfg (f : Weather → Weather) (m : LineId) : (s.modWx f).lineCfg m = s.lineCfg m := rfl
@[simp] theorem modWx_mline (f : Weather → Weather) (m : LineId) : (s.modWx f).mline m = s.mline m := rfl
@[simp] theorem modWx_dline (f : Weather → Weather) (m : LineId) : (s.modWx f).dline m = s.dline m := rfl
@[simp] theorem modWx_portCfg (f : Weather → Weather) (q : PortId) : (s.modWx f).portCfg q = s.portCfg q := rfl
@[simp] theorem modWx_port (f : Weather → Weather) (q : PortId) : (s.modWx f).port q = s.port q := rfl

@[simp] theorem modEng_eng (f : Engine → Engine) : (s.modEng f).eng = f s.eng := rfl
@[simp] theorem modWx_wx (f : Weather → Weather) : (s.modWx f).wx = f s.wx := rfl

/-! ## The part an update is about -/

@[simp] theorem modSlot_slot_self (i : SlotId) (f : Slot → Slot) : (s.modSlot i f).slot i = f (s.slot i) := by
  simp [modSlot, slot]

theorem modSlot_slot_ne (i j : SlotId) (f : Slot → Slot) (h : i ≠ j) : (s.modSlot i f).slot j = s.slot j := by
  simp [modSlot, slot, Fin.val_ne_of_ne h]

theorem modSlot_slot (i j : SlotId) (f : Slot → Slot) :
    (s.modSlot i f).slot j = if i = j then f (s.slot j) else s.slot j := by
  split
  · subst j; simp
  · exact s.modSlot_slot_ne i j f ‹_›

@[simp] theorem modZone_zone_self (z : ZoneId) (f : Zone → Zone) : (s.modZone z f).zone z = f (s.zone z) := by
  simp [modZone, zone]

theorem modZone_zone_ne (z y : ZoneId) (f : Zone → Zone) (h : z ≠ y) : (s.modZone z f).zone y = s.zone y := by
  simp [modZone, zone, Fin.val_ne_of_ne h]

theorem modZone_zone (z y : ZoneId) (f : Zone → Zone) :
    (s.modZone z f).zone y = if z = y then f (s.zone y) else s.zone y := by
  split
  · subst y; simp
  · exact s.modZone_zone_ne z y f ‹_›

@[simp] theorem modMline_mline_self (l : LineId) (f : MotionLine → MotionLine) :
    (s.modMline l f).mline l = f (s.mline l) := by simp [modMline, mline]

theorem modMline_mline_ne (l m : LineId) (f : MotionLine → MotionLine) (h : l ≠ m) :
    (s.modMline l f).mline m = s.mline m := by
  cases l <;> cases m <;> first | exact absurd rfl h | simp [modMline, mline, LineId.idx]

theorem modMline_mline (l m : LineId) (f : MotionLine → MotionLine) :
    (s.modMline l f).mline m = if l = m then f (s.mline m) else s.mline m := by
  split
  · subst m; simp
  · exact s.modMline_mline_ne l m f ‹_›

@[simp] theorem modDline_dline_self (l : LineId) (f : DriveLine → DriveLine) :
    (s.modDline l f).dline l = f (s.dline l) := by simp [modDline, dline]

theorem modDline_dline_ne (l m : LineId) (f : DriveLine → DriveLine) (h : l ≠ m) :
    (s.modDline l f).dline m = s.dline m := by
  cases l <;> cases m <;> first | exact absurd rfl h | simp [modDline, dline, LineId.idx]

theorem modDline_dline (l m : LineId) (f : DriveLine → DriveLine) :
    (s.modDline l f).dline m = if l = m then f (s.dline m) else s.dline m := by
  split
  · subst m; simp
  · exact s.modDline_dline_ne l m f ‹_›

@[simp] theorem modPort_port_self (p : PortId) (f : Port → Port) : (s.modPort p f).port p = f (s.port p) := by
  simp [modPort, port]

theorem modPort_port_ne (p q : PortId) (f : Port → Port) (h : p ≠ q) : (s.modPort p f).port q = s.port q := by
  cases p <;> cases q <;> first | exact absurd rfl h | simp [modPort, port, PortId.idx]

theorem modPort_port (p q : PortId) (f : Port → Port) :
    (s.modPort p f).port q = if p = q then f (s.port q) else s.port q := by
  split
  · subst q; simp
  · exact s.modPort_port_ne p q f ‹_›

/-! ## Two updates of one part -/

theorem modPort_modPort (p : PortId) (f g : Port → Port) :
    (s.modPort p f).modPort p g = s.modPort p fun pt => g (f pt) := by
  simp [modPort]

theorem modSlot_modSlot (i : SlotId) (f g : Slot → Slot) :
    (s.modSlot i f).modSlot i g = s.modSlot i fun r => g (f r) := by
  simp [modSlot]

theorem modDline_modDline (l : LineId) (f g : DriveLine → DriveLine) :
    (s.modDline l f).modDline l g = s.modDline l fun d => g (f d) := by
  simp [modDline]

theorem modMline_modMline (l : LineId) (f g : MotionLine → MotionLine) :
    (s.modMline l f).modMline l g = s.modMline l fun m => g (f m) := by
  simp [modMline]

theorem modZone_modZone (z : ZoneId) (f g : Zone → Zone) :
    (s.modZone z f).modZone z g = s.modZone z fun zn => g (f zn) := by
  simp [modZone]

theorem modEng_modEng (f g : Engine → Engine) : (s.modEng f).modEng g = s.modEng fun e => g (f e) := rfl

theorem modWx_modWx (f g : Weather → Weather) : (s.modWx f).modWx g = s.modWx fun w => g (f w) := rfl

/-! ## Updates that agree on the part they change -/

theorem modSlot_congr {i : SlotId} {f g : Slot → Slot} (h : f (s.slot i) = g (s.slot i)) : s.modSlot i f = s.modSlot i g := by
  unfold modSlot
  rw [show f s.slots[i] = g s.slots[i] from h]

theorem modZone_congr {z : ZoneId} {f g : Zone → Zone} (h : f (s.zone z) = g (s.zone z)) : s.modZone z f = s.modZone z g := by
  unfold modZone
  rw [show f s.zones[z] = g s.zones[z] from h]

theorem modMline_congr {l : LineId} {f g : MotionLine → MotionLine} (h : f (s.mline l) = g (s.mline l)) :
    s.modMline l f = s.modMline l g := by
  unfold modMline
  rw [show f s.motion[LineId.idx l] = g s.motion[LineId.idx l] from h]

theorem modDline_congr {l : LineId} {f g : DriveLine → DriveLine} (h : f (s.dline l) = g (s.dline l)) :
    s.modDline l f = s.modDline l g := by
  unfold modDline
  rw [show f s.dlc[LineId.idx l] = g s.dlc[LineId.idx l] from h]

theorem modPort_congr {p : PortId} {f g : Port → Port} (h : f (s.port p) = g (s.port p)) : s.modPort p f = s.modPort p g := by
  unfold modPort
  rw [show f s.ports[PortId.idx p] = g s.ports[PortId.idx p] from h]

theorem modEng_congr {f g : Engine → Engine} (h : f s.eng = g s.eng) : s.modEng f = s.modEng g := by
  unfold modEng
  rw [h]

theorem modWx_congr {f g : Weather → Weather} (h : f s.wx = g s.wx) : s.modWx f = s.modWx g := by
  unfold modWx
  rw [h]

/-! ## Updates that change nothing -/

theorem modSlot_same {i : SlotId} {f : Slot → Slot} (h : f (s.slot i) = s.slot i) : s.modSlot i f = s := by
  unfold modSlot
  rw [show f s.slots[i] = s.slots[i] from h]
  simp

theorem modDline_same {l : LineId} {f : DriveLine → DriveLine} (h : f (s.dline l) = s.dline l) : s.modDline l f = s := by
  unfold modDline
  rw [show f s.dlc[LineId.idx l] = s.dlc[LineId.idx l] from h]
  simp

theorem modPort_same {p : PortId} {f : Port → Port} (h : f (s.port p) = s.port p) : s.modPort p f = s := by
  unfold modPort
  rw [show f s.ports[PortId.idx p] = s.ports[PortId.idx p] from h]
  simp

theorem modEng_same {f : Engine → Engine} (h : f s.eng = s.eng) : s.modEng f = s := by
  unfold modEng
  rw [h]

theorem modWx_same {f : Weather → Weather} (h : f s.wx = s.wx) : s.modWx f = s := by
  unfold modWx
  rw [h]

end Sys2Proof.Machine.State
end

