-- ==== Sys2Proof/Laws/Cascade.lean ====
section
/-!
SUPPORT. What MOTION's and COMP's work leaves as it was. `Cascade` is `Keeps` with what is known of the lines and of the slots
MOTION does not drive; every shared operation of chapters 2, 3 and 5 has one lemma here, which later proofs cite.
-/

namespace Sys2Proof.Machine

/-- The fields of a move alone. -/
def Slot.move (r : Slot) : Slot :=
  { motion := r.motion, permit := r.permit, entryTime := r.entryTime, cls := r.cls, dir := r.dir, travel := r.travel
    poll := r.poll, dwell := r.dwell, stoppedShort := r.stoppedShort, deferred := r.deferred }

/-- A slot MOTION does not drive: DETACHED or in FAULT, in no queue and without a class. -/
def State.Out (s : State) (j : SlotId) : Prop :=
  ((s.slot j).motion = .detached ∨ (s.slot j).motion = .fault) ∧ (s.slot j).cls = none ∧ ∀ l, j ∉ (s.mline l).queue

/-- The part of a controller's state that no placement, sending or withdrawal changes. -/
def DriveLine.health (d : DriveLine) : LineState × Nat × Timer × Bool := (d.state, d.failures, d.reset, d.owed)

/-- `Keeps`, and: controllers keep their health, a line that is not in STANDBY keeps its power state, a STOP that is placed or
in flight stays so, and a slot that MOTION does not drive (and that is not in `X`) is not touched. -/
structure Cascade (X : SlotId → Prop) (π : Slot → Slot) (ζ : Zone → Zone) (s t : State) : Prop extends Keeps π ζ s t where
  health : ∀ l, (t.dline l).health = (s.dline l).health
  power : ∀ l, (s.mline l).power ≠ .standby → (t.mline l).power = (s.mline l).power
  stops : ∀ l i, s.placedOrFlying l (Trans.isStopOf i) = true → t.placedOrFlying l (Trans.isStopOf i) = true
  out : ∀ j, ¬ X j → s.Out j → t.Out j ∧ (t.slot j).move = (s.slot j).move

variable {X X' : SlotId → Prop} {π π' : Slot → Slot} {ζ ζ' : Zone → Zone} {s t u : State}

/-! ## The relation -/

theorem Keeps.refl (π : Slot → Slot) (ζ : Zone → Zone) (s : State) : Keeps π ζ s s :=
  ⟨rfl, rfl, rfl, rfl, rfl, rfl, rfl, rfl, fun _ => rfl, fun _ => rfl, fun _ => rfl, fun _ => rfl, fun _ => rfl, fun _ _ h => h⟩

theorem Keeps.trans (h : Keeps π ζ s t) (k : Keeps π ζ t u) : Keeps π ζ s u where
  resetPin := k.resetPin.trans h.resetPin
  mode := k.mode.trans h.mode
  tables := k.tables.trans h.tables
  alarms := k.alarms.trans h.alarms
  wx := k.wx.trans h.wx
  eng := k.eng.trans h.eng
  captures := k.captures.trans h.captures
  pending := k.pending.trans h.pending
  limits l := (k.limits l).trans (h.limits l)
  slots i := (k.slots i).trans (h.slots i)
  zones z := (k.zones z).trans (h.zones z)
  ports p := (k.ports p).trans (h.ports p)
  preparing p := (k.preparing p).trans (h.preparing p)
  flags p n e := k.flags p n (h.flags p n e)

/-- A frame that blanks more follows from one that blanks less. -/
theorem Keeps.weaken (h : Keeps π ζ s t) (hπ : ∀ r, π' (π r) = π' r) (hζ : ∀ z, ζ' (ζ z) = ζ' z) : Keeps π' ζ' s t :=
  { h with
    slots := fun i => by rw [← hπ, h.slots, hπ]
    zones := fun z => by rw [← hζ, h.zones, hζ] }

/-- An update of a slot that changes only blanked fields. -/
theorem Keeps.modSlot (i : SlotId) (f : Slot → Slot) (hπ : ∀ r, π (f r) = π r) : Keeps π ζ s (s.modSlot i f) :=
  { Keeps.refl π ζ s with slots := fun j => by rw [s.modSlot_slot]; split <;> simp [*] }

/-- No frame speaks of the transactions of a line. -/
theorem Keeps.modDline (l : LineId) (f : DriveLine → DriveLine) : Keeps π ζ s (s.modDline l f) :=
  { Keeps.refl π ζ s with }

/-- An update of MOTION's state of a line that leaves its limit. -/
theorem Keeps.modMline (l : LineId) (f : MotionLine → MotionLine) (hlim : ∀ m, (f m).fireLimit = m.fireLimit) :
    Keeps π ζ s (s.modMline l f) :=
  { Keeps.refl π ζ s with limits := fun m => by rw [s.modMline_mline]; split <;> simp [*] }

/-- An update of a zone that changes only blanked fields. -/
theorem Keeps.modZone (z : ZoneId) (f : Zone → Zone) (hζ : ∀ zn, ζ (f zn) = ζ zn) : Keeps π ζ s (s.modZone z f) :=
  { Keeps.refl π ζ s with zones := fun y => by rw [s.modZone_zone]; split <;> simp [*] }

theorem Cascade.refl (X : SlotId → Prop) (π : Slot → Slot) (ζ : Zone → Zone) (s : State) : Cascade X π ζ s s :=
  { Keeps.refl π ζ s with
    health := fun _ => rfl
    power := fun _ _ => rfl
    stops := fun _ _ h => h
    out := fun _ _ h => ⟨h, rfl⟩ }

theorem Cascade.trans (h : Cascade X π ζ s t) (k : Cascade X π ζ t u) : Cascade X π ζ s u :=
  { h.toKeeps.trans k.toKeeps with
    health := fun l => (k.health l).trans (h.health l)
    power := fun l e => (k.power l (by rw [h.power l e]; exact e)).trans (h.power l e)
    stops := fun l i e => k.stops l i (h.stops l i e)
    out := fun j hx e => ⟨(k.out j hx (h.out j hx e).1).1, ((k.out j hx (h.out j hx e).1).2).trans (h.out j hx e).2⟩ }

theorem Cascade.weaken (h : Cascade X π ζ s t) (hπ : ∀ r, π' (π r) = π' r) (hζ : ∀ z, ζ' (ζ z) = ζ' z) :
    Cascade X π' ζ' s t :=
  { h.toKeeps.weaken hπ hζ with health := h.health, power := h.power, stops := h.stops, out := h.out }

/-- Slots that were being driven need no exemption. -/
theorem Cascade.close (h : Cascade X π ζ s t) (hX : ∀ j, X j → ¬ X' j → ¬ s.Out j) : Cascade X' π ζ s t :=
  { h with out := fun j hx e => h.out j (fun hj => hX j hj hx e) e }

theorem Cascade.mono (h : Cascade X π ζ s t) (hX : ∀ j, X j → X' j) : Cascade X' π ζ s t :=
  { h with out := fun j hx e => h.out j (fun hj => hx (hX j hj)) e }

/-! ## Single updates -/

/-- An update of a slot in `X` that changes only blanked fields. -/
theorem Cascade.modSlot (i : SlotId) (f : Slot → Slot) (hX : X i) (hπ : ∀ r, π (f r) = π r) :
    Cascade X π ζ s (s.modSlot i f) :=
  { Cascade.refl X π ζ s with
    slots := fun j => by rw [s.modSlot_slot]; split <;> simp [*]
    out := fun j hx e => by
      have hij : i ≠ j := fun hij => hx (hij ▸ hX)
      simpa [State.Out, s.modSlot_slot_ne i j f hij] using e }

/-- An update of a slot that leaves its move as it was. -/
theorem Cascade.modSlot' (i : SlotId) (f : Slot → Slot) (hπ : ∀ r, π (f r) = π r) (hm : ∀ r, (f r).move = r.move) :
    Cascade X π ζ s (s.modSlot i f) :=
  { Cascade.refl X π ζ s with
    slots := fun j => by rw [s.modSlot_slot]; split <;> simp [*]
    out := fun j _ e => by
      have h1 : ((s.modSlot i f).slot j).move = (s.slot j).move := by rw [s.modSlot_slot]; split <;> simp [*]
      refine ⟨?_, h1⟩
      have h2 : ((s.modSlot i f).slot j).motion = (s.slot j).motion := congrArg (fun r => r.motion) h1
      have h3 : ((s.modSlot i f).slot j).cls = (s.slot j).cls := congrArg (fun r => r.cls) h1
      exact ⟨by rw [h2]; exact e.1, by rw [h3]; exact e.2.1, e.2.2⟩ }

/-- An update of MOTION's state of a line that lets no slot outside `X` into the queue. -/
theorem Cascade.modMline (l : LineId) (f : MotionLine → MotionLine) (hlim : ∀ m, (f m).fireLimit = m.fireLimit)
    (hq : ∀ j, j ∈ (f (s.mline l)).queue → j ∈ (s.mline l).queue ∨ X j)
    (hp : (s.mline l).power ≠ .standby → (f (s.mline l)).power = (s.mline l).power) : Cascade X π ζ s (s.modMline l f) :=
  { Cascade.refl X π ζ s with
    limits := fun m => by rw [s.modMline_mline]; split <;> simp [*]
    power := fun m e => by
      rw [s.modMline_mline]
      split
      · subst m; exact hp e
      · rfl
    out := fun j hx e => by
      refine ⟨⟨e.1, e.2.1, fun m hm => ?_⟩, rfl⟩
      rw [s.modMline_mline] at hm
      split at hm
      · subst m; exact (hq j hm).elim (e.2.2 _) hx
      · exact e.2.2 _ hm }

/-- An update of MOTION's state of a line that leaves limit, queue and power state as they were. -/
theorem Cascade.modMline' (l : LineId) (f : MotionLine → MotionLine)
    (h : ∀ m, (f m).fireLimit = m.fireLimit ∧ (f m).queue = m.queue ∧ (f m).power = m.power) :
    Cascade X π ζ s (s.modMline l f) :=
  Cascade.modMline l f (fun m => (h m).1) (fun _ hj => Or.inl ((h _).2.1 ▸ hj)) fun _ => (h _).2.2

/-- An update of a zone that changes only blanked fields. -/
theorem Cascade.modZone (z : ZoneId) (f : Zone → Zone) (hζ : ∀ zn, ζ (f zn) = ζ zn) : Cascade X π ζ s (s.modZone z f) :=
  { Cascade.refl X π ζ s with zones := fun y => by rw [s.modZone_zone]; split <;> simp [*] }

/-- An update of a controller's queue and flight that loses no STOP. -/
theorem Cascade.modDline (l : LineId) (f : DriveLine → DriveLine) (hh : ∀ d, (f d).health = d.health)
    (hs : ∀ i, s.placedOrFlying l (Trans.isStopOf i) = true → (s.modDline l f).placedOrFlying l (Trans.isStopOf i) = true) :
    Cascade X π ζ s (s.modDline l f) :=
  { Cascade.refl X π ζ s with
    health := fun m => by rw [s.modDline_dline]; split <;> simp [*]
    stops := fun m i e => by
      by_cases hm : l = m
      · subst m; exact hs i e
      · simpa [State.placedOrFlying, State.inFlight, s.modDline_dline_ne l m f hm] using e }

/-- A port update that changes notice flags alone. -/
theorem Cascade.modPort (p : PortId) (f : Port → Port) (ha : ∀ pt, (f pt).apart = pt.apart)
    (hp : ∀ pt, (f pt).prep = pt.prep) (hf : ∀ pt k, pt.notice k = true → (f pt).notice k = true) :
    Cascade X π ζ s (s.modPort p f) :=
  { Cascade.refl X π ζ s with
    ports := fun q => by rw [s.modPort_port]; split <;> simp [*]
    preparing := fun q => by rw [s.modPort_port]; split <;> simp [*]
    flags := fun q k e => by rw [s.modPort_port]; split <;> simp [*] }

/-- A flag that is set stays set (R166). -/
theorem Port.notice_raise (k j : Notice) (pt : Port) (h : pt.notice j = true) : (pt.raise k).notice j = true := by
  simp_all [Port.notice, Port.raise]

/-- The notice raised is set. -/
theorem Port.notice_raise_self (k : Notice) (pt : Port) : (pt.raise k).notice k = true := by
  cases k <;> simp [Port.notice, Port.raise, Notice.mask, Notice.bitIndex]

theorem raiseOn_cascade (p : PortId) (k : Notice) : Cascade X π ζ s (s.raiseOn p k) :=
  Cascade.modPort p _ (fun _ => rfl) (fun _ => rfl) fun _ _ h => Port.notice_raise _ _ _ h

theorem raiseAll_cascade (k : Notice) : Cascade X π ζ s (s.raiseAll k) :=
  ((raiseOn_cascade _ _).trans (raiseOn_cascade _ _)).trans (raiseOn_cascade _ _)

theorem raiseIf_cascade (b : Bool) (k : Notice) : Cascade X π ζ s (s.raiseIf b k) := by
  unfold State.raiseIf
  split
  · exact raiseAll_cascade k
  · exact Cascade.refl X π ζ s

/-- A notice raised on every port is set on every port. -/
theorem raiseAll_notice (s : State) (k : Notice) (p : PortId) : ((s.raiseAll k).port p).notice k = true := by
  cases p <;> simp [State.raiseAll, State.raiseOn, State.modPort_port, Port.notice_raise_self]

/-! ## Transactions (chapter 6) -/

theorem sendNext_cascade (l : LineId) : Cascade X π ζ s (s.sendNext l) := by
  unfold State.sendNext
  split
  · split
    · exact Cascade.refl X π ζ s
    · rename_i hc _ t ht
      refine Cascade.modDline l _ (fun _ => rfl) fun i h => ?_
      simp only [State.placedOrFlying, State.inFlight, State.modDline_dline_self, Bool.or_eq_true, List.any_eq_true] at h ⊢
      rcases h with ⟨v, hv, hvi⟩ | h
      · by_cases hvt : v = t
        · subst v; right; simpa [Option.filter] using hvi
        · exact Or.inl ⟨v, (List.mem_erase_of_ne hvt).2 hv, hvi⟩
      · rw [hc.2] at h; simp at h
  · exact Cascade.refl X π ζ s

/-- A STOP in a queue stays in it when another transaction is placed. -/
theorem enqueue_keeps_stop (v t : Trans) (i : SlotId) (q : List Trans) (hv : v ∈ q) (hvi : v.isStopOf i = true) :
    v ∈ enqueue t q := by
  unfold enqueue
  split
  · split
    · refine List.mem_map.2 ⟨v, hv, ?_⟩
      cases v <;> simp_all [Trans.isStopOf, Trans.sameRequest, Trans.kind]
    · exact hv
  · exact List.mem_append_left _ hv

theorem place_cascade (l : LineId) (t : Trans) : Cascade X π ζ s (s.place l t) := by
  unfold State.place
  split
  · refine Cascade.trans (t := s.modDline l fun d => { d with queue := enqueue t d.queue })
      (Cascade.modDline l _ (fun _ => rfl) fun i h => ?_) (sendNext_cascade l)
    simp only [State.placedOrFlying, State.inFlight, State.modDline_dline_self, Bool.or_eq_true, List.any_eq_true] at h ⊢
    rcases h with ⟨v, hv, hvi⟩ | h
    · exact Or.inl ⟨v, enqueue_keeps_stop v t i _ hv hvi, hvi⟩
    · exact Or.inr h
  · exact Cascade.refl X π ζ s

/-- Withdrawing transactions other than STOPs. -/
theorem withdraw_cascade (l : LineId) (which : Trans → Bool) (hw : ∀ v i, v.isStopOf i = true → which v = false) :
    Cascade X π ζ s (s.withdraw l which) := by
  refine Cascade.modDline l _ (fun _ => rfl) fun i h => ?_
  simp only [State.placedOrFlying, State.inFlight, State.modDline_dline_self, Bool.or_eq_true, List.any_eq_true] at h ⊢
  rcases h with ⟨v, hv, hvi⟩ | h
  · exact Or.inl ⟨v, List.mem_filter.2 ⟨hv, by simp [hw v i hvi]⟩, hvi⟩
  · right
    revert h
    cases (s.dline l).flight with
    | none => simp
    | some f =>
      by_cases hp : f.phase = .ended <;> by_cases hwf : which f.trans = true <;> simp [Option.filter, hp, hwf]

theorem isMoveOf_spares_stop (i : SlotId) : ∀ v j, v.isStopOf j = true → Trans.isMoveOf i v = false := by
  intro v j h
  cases v <;> simp_all [Trans.isStopOf, Trans.isMoveOf]

end Sys2Proof.Machine
end

