-- ==== Sys2Proof/Laws/Motion.lean ====
section
/-!
SUPPORT. One lemma for each shared operation of chapters 2 and 5: what it leaves as it was (`Cascade`).
-/

namespace Sys2Proof.Machine

variable {X : SlotId → Prop} {s : State}

/-- A slot in a queue is being driven. -/
theorem not_out_of_mem {l : LineId} {j : SlotId} (h : j ∈ (s.mline l).queue) : ¬ s.Out j := fun e => e.2.2 l h

theorem not_out_of_cls {j : SlotId} {c : Fin 3} (h : (s.slot j).cls = some c) : ¬ s.Out j := fun e => by
  simp [e.2.1] at h

/-! ## The permit queue -/

theorem setMove_cascade (i : SlotId) (d : Direction) (hX : X i) : Cascade X Slot.still id s (s.setMove i d) :=
  Cascade.modSlot i _ hX (by intro _; rfl)

theorem setClass_cascade (i : SlotId) (d : Direction) (hX : X i) : Cascade X Slot.still id s (s.setClass i d) :=
  Cascade.modSlot i _ hX (by intro _; rfl)

/-- The entries of a queue after a slot has joined it. -/
theorem mem_insertInto (s : State) (i j : SlotId) (q : List SlotId) : j ∈ s.insertInto i q ↔ j = i ∨ j ∈ q := by
  induction q with
  | nil => simp [State.insertInto]
  | cons k q ih =>
    simp only [State.insertInto]
    split
    · simp
    · simp only [List.mem_cons, ih]; tauto

theorem joinQueue_cascade (i : SlotId) (hX : X i) : Cascade X Slot.still id s (s.joinQueue i) :=
  Cascade.modMline _ _ (by intro _; rfl)
    (fun j hj => by
      rcases (mem_insertInto _ _ _ _).1 hj with h | h
      · exact Or.inr (h ▸ hX)
      · exact Or.inl h)
    (by intro _; rfl)

theorem leaveQueue_cascade (i : SlotId) (hX : X i) : Cascade X Slot.still id s (s.leaveQueue i) :=
  (Cascade.modMline _ _ (by intro _; rfl) (by intro _ hj; exact Or.inl (List.mem_of_mem_erase hj)) (by intro _; rfl)).trans
    (Cascade.modSlot i _ hX (by intro _; rfl))

theorem foldSlots_cascade {α : Type} (es : List α) (g : α → SlotId) (f : α → Slot → Slot) (h : ∀ e ∈ es, X (g e))
    (hf : ∀ e r, (f e r).still = r.still) (s : State) :
    Cascade X Slot.still id s (es.foldl (fun t e => t.modSlot (g e) (f e)) s) := by
  induction es generalizing s with
  | nil => exact Cascade.refl _ _ _ _
  | cons e es ih =>
    exact (Cascade.modSlot (g e) (f e) (h e (by simp)) (hf e)).trans (ih (fun e he => h e (by simp [he])) _)

theorem renumber_cascade (l : LineId) : Cascade X Slot.still id s (s.renumber l) := by
  unfold State.renumber
  split
  · refine Cascade.close (X := fun j => j ∈ (s.mline l).queue) ?_ fun j hj _ => not_out_of_mem hj
    refine (foldSlots_cascade (s.mline l).queue.zipIdx (fun e => e.1) (fun e r => { r with entryTime := some (e.2 + 1) })
      (fun e he => ?_) (fun _ _ => rfl) s).trans (Cascade.modMline' _ _ (by intro _; exact ⟨rfl, rfl, rfl⟩))
    obtain ⟨a, n⟩ := e
    exact (List.mem_zipIdx' he).2 ▸ List.getElem_mem _
  · exact Cascade.refl _ _ _ _

theorem enterQueue_cascade (i : SlotId) (d : Direction) (hX : X i) : Cascade X Slot.still id s (s.enterQueue i d) := by
  unfold State.enterQueue
  refine Cascade.trans ?_ (renumber_cascade _)
  refine Cascade.trans ?_ (joinQueue_cascade i hX)
  refine Cascade.trans ?_ (Cascade.modSlot i _ hX (by intro _; rfl))
  refine Cascade.trans ?_ (setMove_cascade i d hX)
  exact Cascade.modMline' _ _ (by intro _; exact ⟨rfl, rfl, rfl⟩)

/-! ## Grants -/

theorem placeMove_cascade (i : SlotId) : Cascade X Slot.still id s (s.placeMove i) := by
  unfold State.placeMove
  split
  · exact place_cascade _ _
  · exact Cascade.refl _ _ _ _

theorem grant_cascade (l : LineId) (i : SlotId) (hX : X i) : Cascade X Slot.still id s (s.grant l i) := by
  unfold State.grant
  exact (((leaveQueue_cascade i hX).trans (Cascade.modMline' _ _ (by intro _; exact ⟨rfl, rfl, rfl⟩))).trans
    (Cascade.modSlot i _ hX (by intro _; rfl))).trans (placeMove_cascade i)

theorem grants_cascade (l : LineId) (n : Nat) (s : State) : Cascade X Slot.still id s (s.grants l n) := by
  induction n generalizing s with
  | zero => exact Cascade.refl _ _ _ _
  | succ n ih =>
    unfold State.grants
    split
    · exact Cascade.refl _ _ _ _
    · rename_i i q hq
      split
      · refine Cascade.trans ?_ (ih _)
        refine Cascade.close (grant_cascade (X := (· = i)) l i rfl) fun j hj _ => ?_
        exact not_out_of_mem (l := l) (by rw [hq, hj]; simp)
      · exact Cascade.refl _ _ _ _

theorem grantAll_cascade (l : LineId) : Cascade X Slot.still id s (s.grantAll l) := grants_cascade l _ s

/-! ## Release -/

theorem giveBack_cascade (i : SlotId) (hX : X i) : Cascade X Slot.still id s (s.giveBack i) := by
  unfold State.giveBack
  split
  · exact ((Cascade.modSlot i _ hX (by intro _; rfl)).trans
      (Cascade.modMline' _ _ (by intro _; exact ⟨rfl, rfl, rfl⟩))).trans
        (withdraw_cascade _ _ fun v j h => isMoveOf_spares_stop i v j h)
  · exact Cascade.refl _ _ _ _

theorem stopTimers_cascade (i : SlotId) (hX : X i) : Cascade X Slot.still id s (s.stopTimers i) :=
  Cascade.modSlot i _ hX (by intro _; rfl)

theorem endPreemption_cascade (i : SlotId) : Cascade X Slot.still id s (s.endPreemption i) := by
  unfold State.endPreemption
  split
  · exact Cascade.modMline' _ _ (by intro _; exact ⟨rfl, rfl, rfl⟩)
  · exact Cascade.refl _ _ _ _

theorem becomeIdle_cascade (i : SlotId) (hX : X i) : Cascade X Slot.still id s (s.becomeIdle i) :=
  Cascade.modSlot i _ hX (by intro _; rfl)

/-! ## Preemption and waking -/

theorem startStop_cascade (i : SlotId) (k : Continuation) (hX : X i) : Cascade X Slot.still id s (s.startStop i k) := by
  unfold State.startStop
  exact (((stopTimers_cascade i hX).trans (Cascade.modSlot i _ hX (by intro _; rfl))).trans
    (withdraw_cascade _ _ fun v j h => isMoveOf_spares_stop i v j h)).trans (place_cascade _ _)

theorem preempt_cascade (l : LineId) (i : SlotId) (hX : X i) : Cascade X Slot.still id s (s.preempt l i) := by
  unfold State.preempt
  split
  · have h := (giveBack_cascade (s := s) i hX).trans (becomeIdle_cascade i hX)
    dsimp only
    split
    · exact (h.trans (enterQueue_cascade i _ hX)).trans (grantAll_cascade l)
    · exact h.trans (grantAll_cascade l)
  · exact (startStop_cascade i _ hX).trans (Cascade.modMline' _ _ (by intro _; exact ⟨rfl, rfl, rfl⟩))

theorem preempts_cascade (l : LineId) (n : Nat) (s : State) : Cascade X Slot.still id s (s.preempts l n) := by
  induction n generalizing s with
  | zero => exact Cascade.refl _ _ _ _
  | succ n ih =>
    unfold State.preempts
    split
    · split
      · rename_i i hi
        refine Cascade.trans ?_ (ih _)
        refine Cascade.close (preempt_cascade (X := (· = i)) l i rfl) fun j hj _ => ?_
        have h := List.find?_some hi
        simp only [Bool.and_eq_true, beq_iff_eq] at h
        exact not_out_of_cls (hj ▸ h.1)
      · exact Cascade.refl _ _ _ _
    · exact Cascade.refl _ _ _ _

theorem startWaking_cascade (l : LineId) (h : (s.mline l).power = .standby) :
    Cascade X Slot.still id s (s.startWaking l) := by
  unfold State.startWaking
  exact (Cascade.modMline _ _ (by intro _; rfl) (by intro _ hj; exact Or.inl hj) (by intro e; exact absurd h e)).trans (raiseAll_cascade _)

theorem settle_cascade (l : LineId) : Cascade X Slot.still id s (s.settle l) := by
  unfold State.settle
  refine Cascade.trans (Cascade.trans ?_ (grantAll_cascade l)) (preempts_cascade l _ _)
  split
  · rename_i h
    simp only [State.mustWake, Bool.and_eq_true, decide_eq_true_eq] at h
    exact startWaking_cascade l h.1
  · exact Cascade.refl _ _ _ _

/-! ## Motion states -/

theorem evaluateIdle_cascade (i : SlotId) (hX : X i) : Cascade X Slot.still id s (s.evaluateIdle i) := by
  unfold State.evaluateIdle
  split
  · exact (enterQueue_cascade i _ hX).trans (settle_cascade _)
  · exact Cascade.refl _ _ _ _

theorem evaluateQueued_cascade (i : SlotId) (hX : X i) : Cascade X Slot.still id s (s.evaluateQueued i) := by
  unfold State.evaluateQueued
  split
  · split
    · exact setMove_cascade i _ hX
    · refine Cascade.trans (Cascade.trans (Cascade.trans ?_ (setMove_cascade i _ hX)) (joinQueue_cascade i hX)) (settle_cascade _)
      exact Cascade.modMline _ _ (by intro _; rfl) (by intro _ hj; exact Or.inl (List.mem_of_mem_erase hj)) (by intro _; rfl)
  · exact ((leaveQueue_cascade i hX).trans (becomeIdle_cascade i hX)).trans (settle_cascade _)

theorem releaseToIdle_cascade (i : SlotId) (hX : X i) : Cascade X Slot.still id s (s.releaseToIdle i) :=
  ((((endPreemption_cascade i).trans (stopTimers_cascade i hX)).trans (giveBack_cascade i hX)).trans
    (becomeIdle_cascade i hX)).trans (settle_cascade _)

theorem reclass_cascade (i : SlotId) (hX : X i) : Cascade X Slot.still id s (s.reclass i) := by
  unfold State.reclass
  split
  · exact setClass_cascade i _ hX
  · exact Cascade.refl _ _ _ _

theorem retarget_cascade (i : SlotId) (hX : X i) : Cascade X Slot.still id s (s.retarget i) := by
  unfold State.retarget
  have h := reclass_cascade (s := s) i hX
  dsimp only
  split
  · exact h.trans (startStop_cascade i _ hX)
  · split
    · exact (h.trans (placeMove_cascade i)).trans (settle_cascade _)
    · exact h.trans (startStop_cascade i _ hX)

theorem retargetStarting_cascade (i : SlotId) (hX : X i) : Cascade X Slot.still id s (s.retargetStarting i) := by
  unfold State.retargetStarting
  split
  · split
    · exact ((setMove_cascade i _ hX).trans (placeMove_cascade i)).trans (settle_cascade _)
    · exact releaseToIdle_cascade i hX
  · exact ((reclass_cascade i hX).trans (Cascade.modSlot i _ hX (by intro _; rfl))).trans (settle_cascade _)

/-- A target change touches no slot that MOTION does not drive (R92, R102). -/
theorem targetChange_cascade (i : SlotId) : Cascade X Slot.still id s (s.targetChange i) := by
  have key : ∀ {t : State}, ((s.slot i).motion ≠ .detached ∧ (s.slot i).motion ≠ .fault) →
      Cascade (· = i) Slot.still id s t → Cascade X Slot.still id s t := fun hm h =>
    Cascade.close h fun j hj _ e => by
      subst j
      rcases e.1 with h | h
      · exact hm.1 h
      · exact hm.2 h
  unfold State.targetChange
  split
  · rename_i h; exact key (by simp [h]) (evaluateIdle_cascade i rfl)
  · rename_i h; exact key (by simp [h]) (evaluateQueued_cascade i rfl)
  · rename_i h; exact key (by simp [h]) (retargetStarting_cascade i rfl)
  · rename_i h; exact key (by simp [h]) (retarget_cascade i rfl)
  all_goals exact Cascade.refl _ _ _ _

/-! ## Composition (chapter 2) -/

/-- From a frame of moves to one of moves and composed pairs. -/
theorem Cascade.untargeted {t : State} (h : Cascade X Slot.still id s t) : Cascade X Slot.untargeted id s t :=
  h.weaken (by intro _; rfl) (by intro _; rfl)

/-- From a frame of composed pairs to one of fire values. -/
theorem Cascade.unfired {t : State} (h : Cascade X Slot.untargeted id s t) : Cascade X Slot.unfired id s t :=
  h.weaken (by intro _; rfl) (by intro _; rfl)

theorem recompose_cascade (i : SlotId) : Cascade X Slot.untargeted id s (s.recompose i) := by
  unfold State.recompose
  split
  · split
    · exact Cascade.refl _ _ _ _
    · exact (Cascade.modSlot' i _ (by intro _; rfl) (by intro _; rfl)).trans (targetChange_cascade i).untargeted
  · exact Cascade.refl _ _ _ _

theorem refire_cascade (i : SlotId) : Cascade X Slot.unfired id s (s.refire i) :=
  (Cascade.modSlot' i _ (by intro _; rfl) (by intro _; rfl)).trans (recompose_cascade i).unfired

/-- Taking slots one after another keeps what each of them keeps. -/
theorem eachSlot_cascade {π : Slot → Slot} {ζ : Zone → Zone} (l : List SlotId) (f : SlotId → State → State)
    (h : ∀ i ∈ l, ∀ s, Cascade X π ζ s (f i s)) (s : State) : Cascade X π ζ s (s.eachSlot l f) := by
  unfold State.eachSlot
  induction l generalizing s with
  | nil => exact Cascade.refl _ _ _ _
  | cons i l ih => exact (h i (by simp) s).trans (ih (fun j hj => h j (by simp [hj])) _)

theorem eachZone_cascade {π : Slot → Slot} {ζ : Zone → Zone} (l : List ZoneId) (f : ZoneId → State → State)
    (h : ∀ z ∈ l, ∀ s, Cascade X π ζ s (f z s)) (s : State) : Cascade X π ζ s (s.eachZone l f) := by
  unfold State.eachZone
  induction l generalizing s with
  | nil => exact Cascade.refl _ _ _ _
  | cons i l ih => exact (h i (by simp) s).trans (ih (fun j hj => h j (by simp [hj])) _)

theorem eachLine_cascade {π : Slot → Slot} {ζ : Zone → Zone} (f : LineId → State → State)
    (h : ∀ l s, Cascade X π ζ s (f l s)) (s : State) : Cascade X π ζ s (s.eachLine f) := by
  unfold State.eachLine allLines
  exact (((h .a s).trans (h .b _)).trans (h .c _)).trans (h .d _)

theorem announceZone_cascade (z : ZoneId) : Cascade X Slot.unfired id s (s.announceZone z) :=
  eachSlot_cascade _ _ (fun i _ _ => refire_cascade i) s

theorem writeBms_cascade (i : SlotId) (v : Option Nat) :
    Cascade X (fun r => { r.untargeted with bms := none }) id s (s.writeBms i v) :=
  (Cascade.modSlot' i _ (by intro _; rfl) (by intro _; rfl)).trans ((recompose_cascade i).weaken (by intro _; rfl) (by intro _; rfl))

end Sys2Proof.Machine
end

