-- ==== Sys2Proof/Laws/Comp.lean ====
section
/-!
SUPPORT. Recomposition (R20–R22): the pair it leaves in every slot, and what the composed pair depends on.
-/

namespace Sys2Proof.Machine

variable {s t : State}

/-- The composed pair of a slot as it is recorded. -/
def Slot.pair (r : Slot) : Source × Option Nat := (r.source, r.target)

/-- What MOTION does with a new target leaves every recorded pair as it was. -/
theorem targetChange_pair (i j : SlotId) : ((s.targetChange i).slot j).pair = (s.slot j).pair :=
  congrArg (fun r => (r.source, r.target)) ((targetChange_cascade (X := fun _ => False) (s := s) i).slots j)

/-- The pair every slot holds after a recomposition (R20, R21). -/
theorem recompose_pair (i j : SlotId) : ((s.recompose i).slot j).pair =
    if j = i ∧ (s.vent i).mapped = true ∧ s.mode = .run then s.composedOf i else (s.slot j).pair := by
  unfold State.recompose
  split
  · rename_i h
    split
    · rename_i e
      split
      · rename_i hj; rw [hj.1]; exact e
      · rfl
    · rw [targetChange_pair, State.modSlot_slot]
      by_cases hj : i = j
      · subst hj; simp [h, Slot.pair]
      · simp [hj, Ne.symm hj]
  · rename_i h
    rw [if_neg (fun e => h e.2)]

/-- The composed pair depends on the override mode, the rest position and the four layers alone (R19, R20). -/
theorem composedOf_congr (i : SlotId) (hm : t.modeOf i = s.modeOf i) (hr : (t.vent i).rest = (s.vent i).rest)
    (hh : (t.slot i).hold = (s.slot i).hold) (hf : (t.slot i).fire = (s.slot i).fire)
    (hb : (t.slot i).bms = (s.slot i).bms) (hc : (t.slot i).ceiling = (s.slot i).ceiling) :
    t.composedOf i = s.composedOf i := by
  unfold State.composedOf composed
  rw [hm, hr, hh, hf, hb, hc]

end Sys2Proof.Machine
end

