-- ==== Sys2Proof/Laws/Fplan.lean ====
section
/-!
SUPPORT. One lemma for each shared operation of chapter 3 and of MOTION's faults and link events: what it leaves as it was.
-/

namespace Sys2Proof.Machine

variable {X : SlotId → Prop} {s : State}

/-! ## Areas, latch and status -/

theorem evalStatus_cascade (z : ZoneId) : Cascade X Slot.unfired Zone.unsummed s (s.evalStatus z) := by
  unfold State.evalStatus
  split
  · exact (Cascade.modZone z _ (by intro _; rfl)).trans (raiseIf_cascade _ _)
  · exact Cascade.refl _ _ _ _

theorem recomputeConf_cascade (z : ZoneId) : Cascade X Slot.unfired Zone.unsummed s (s.recomputeConf z) :=
  (Cascade.modZone z _ (by intro _; rfl)).trans (evalStatus_cascade z)

theorem recomputeAvail_cascade (z : ZoneId) : Cascade X Slot.unfired Zone.unsummed s (s.recomputeAvail z) := by
  have h : Cascade X Slot.unfired Zone.unsummed s (s.modZone z fun zn => { zn with avail := s.availOf z }) :=
    Cascade.modZone z _ (by intro _; rfl)
  unfold State.recomputeAvail
  dsimp only
  split
  · refine Cascade.trans ?_ (raiseAll_cascade _)
    refine Cascade.trans ?_ ((announceZone_cascade z).weaken (by intro _; rfl) (by intro _; rfl))
    exact h.trans (Cascade.modZone z _ (by intro _; rfl))
  · exact h

theorem availChanged_cascade (i : SlotId) : Cascade X Slot.unfired Zone.unsummed s (s.availChanged i) := by
  unfold State.availChanged
  split
  · exact recomputeAvail_cascade _
  · exact Cascade.refl _ _ _ _

theorem confChanged_cascade (i : SlotId) : Cascade X Slot.unfired Zone.unsummed s (s.confChanged i) := by
  unfold State.confChanged
  split
  · exact recomputeConf_cascade _
  · exact Cascade.refl _ _ _ _

theorem recomputeZones_cascade (zs : List ZoneId) : Cascade X Slot.unfired Zone.unsummed s (s.recomputeZones zs) :=
  eachZone_cascade _ _ (fun z _ _ => (recomputeAvail_cascade z).trans (recomputeConf_cascade z)) s

/-! ## Faults and link events -/

/-- From a frame of moves to one of faults and area sums. -/
theorem Cascade.unfaulted {t : State} (h : Cascade X Slot.still id s t) : Cascade X Slot.unfaulted Zone.unsummed s t :=
  h.weaken (by intro _; rfl) (by intro _; rfl)

/-- From a frame of fire values to one of faults. -/
theorem Cascade.faultable {t : State} (h : Cascade X Slot.unfired Zone.unsummed s t) :
    Cascade X Slot.unfaulted Zone.unsummed s t :=
  h.weaken (by intro _; rfl) (by intro _; rfl)

theorem enterFault_cascade (i : SlotId) (code : FaultCode) (stop : Bool) (hX : X i) :
    Cascade X Slot.unfaulted Zone.unsummed s (s.enterFault i code stop) := by
  unfold State.enterFault
  dsimp only
  refine Cascade.trans ?_ (raiseAll_cascade _)
  refine Cascade.trans ?_ (availChanged_cascade i).faultable
  have h := ((((((endPreemption_cascade (s := s) i).trans (stopTimers_cascade i hX)).unfaulted.trans
    (Cascade.modSlot i (fun r =>
      { r with motion := .fault, fault := code, cls := none, dir := none, deferred := false }) hX (by intro _; rfl))).trans
      (giveBack_cascade i hX).unfaulted).trans (leaveQueue_cascade i hX).unfaulted).trans
        (settle_cascade (s.vent i).line).unfaulted)
  split
  · exact h.trans (place_cascade _ _)
  · exact h

theorem clearFault_cascade (i : SlotId) (hX : X i) : Cascade X Slot.unfaulted Zone.unsummed s (s.clearFault i) := by
  unfold State.clearFault
  split
  · exact (((becomeIdle_cascade i hX).unfaulted.trans (Cascade.modSlot i _ hX (by intro _; rfl))).trans
      (availChanged_cascade i).faultable).trans (evaluateIdle_cascade i hX).unfaulted
  · exact (Cascade.modSlot i _ hX (by intro _; rfl)).trans (availChanged_cascade i).faultable

theorem linkLoss_cascade (i : SlotId) (hX : X i) : Cascade X Slot.unfaulted Zone.unsummed s (s.linkLoss i) := by
  unfold State.linkLoss
  split
  · exact Cascade.refl _ _ _ _
  · exact (((((endPreemption_cascade i).unfaulted.trans (stopTimers_cascade i hX).unfaulted).trans
      (Cascade.modSlot i _ hX (by intro _; rfl))).trans (giveBack_cascade i hX).unfaulted).trans
        (leaveQueue_cascade i hX).unfaulted).trans (settle_cascade _).unfaulted

theorem linkOnline_cascade (i : SlotId) (hX : X i) : Cascade X Slot.unfaulted Zone.unsummed s (s.linkOnline i) := by
  unfold State.linkOnline
  split
  · dsimp only
    split
    · exact (becomeIdle_cascade i hX).unfaulted.trans (enterFault_cascade i _ _ hX)
    · exact (becomeIdle_cascade i hX).unfaulted.trans (evaluateIdle_cascade i hX).unfaulted
  · exact Cascade.refl _ _ _ _

theorem profileRefused_cascade (i : SlotId) (hX : X i) : Cascade X Slot.unfaulted Zone.unsummed s (s.profileRefused i) := by
  unfold State.profileRefused
  split
  · exact enterFault_cascade i _ _ hX
  · exact Cascade.refl _ _ _ _

/-! ## Judging replies -/

theorem dwellEnds_cascade (i : SlotId) (hX : X i) : Cascade X Slot.still id s (s.dwellEnds i) := by
  unfold State.dwellEnds
  split
  · exact (((setMove_cascade i _ hX).trans (Cascade.modSlot i _ hX (by intro _; rfl))).trans (placeMove_cascade i)).trans
      (settle_cascade _)
  · exact releaseToIdle_cascade i hX

theorem moveAnswered_cascade (i : SlotId) (hX : X i) : Cascade X Slot.still id s (s.moveAnswered i) := by
  unfold State.moveAnswered
  dsimp only
  split
  · exact (Cascade.modSlot i _ hX (by intro _; rfl)).trans (retarget_cascade i hX)
  · exact Cascade.modSlot i _ hX (by intro _; rfl)

theorem pollAnswered_cascade (i : SlotId) (hX : X i) : Cascade X Slot.unfaulted Zone.unsummed s (s.pollAnswered i) := by
  unfold State.pollAnswered
  split
  · exact ((releaseToIdle_cascade i hX).trans (evaluateIdle_cascade i hX)).unfaulted
  · split
    · exact Cascade.refl _ _ _ _
    · split
      · exact ((Cascade.modSlot i _ hX (by intro _; rfl)).trans (placeMove_cascade i)).unfaulted
      · exact enterFault_cascade i _ _ hX

theorem stopAnswered_cascade (i : SlotId) (k : Continuation) (hX : X i) : Cascade X Slot.still id s (s.stopAnswered i k) := by
  unfold State.stopAnswered
  split
  · exact (releaseToIdle_cascade i hX).trans (evaluateIdle_cascade i hX)
  · exact (releaseToIdle_cascade i hX).trans (evaluateIdle_cascade i hX)
  · dsimp only
    split
    · exact (Cascade.modSlot i _ hX (by intro _; rfl)).trans (dwellEnds_cascade i hX)
    · exact Cascade.modSlot i _ hX (by intro _; rfl)

/-- Judging a reply: it touches the slot it is for, and what MOTION drives. -/
theorem judge_cascade (i : SlotId) (t : Trans) (hX : X i) : Cascade X Slot.unfaulted Zone.unsummed s (s.judge i t) := by
  unfold State.judge
  dsimp only
  split
  · exact Cascade.refl _ _ _ _
  · exact Cascade.refl _ _ _ _
  · split
    · exact enterFault_cascade i _ _ hX
    · split
      · exact enterFault_cascade i _ _ hX
      · split
        · exact (evaluateIdle_cascade i hX).unfaulted
        · exact (evaluateQueued_cascade i hX).unfaulted
        · split
          · exact (moveAnswered_cascade i hX).unfaulted
          · exact Cascade.refl _ _ _ _
        · split
          · exact pollAnswered_cascade i hX
          · exact Cascade.refl _ _ _ _
        · split
          · exact (stopAnswered_cascade i _ hX).unfaulted
          · exact Cascade.refl _ _ _ _
        all_goals exact Cascade.refl _ _ _ _

end Sys2Proof.Machine
end

