-- ==== Sys2Proof/Laws/Controller.lean ====
section
/-!
SUPPORT. One lemma for each shared operation of chapters 4 and 6: what it leaves as it was.
-/

namespace Sys2Proof.Machine

variable {s : State}

/-- What a drive line's events may not change: everything but the slots' moves, faults, composed pairs, fire values, hold
captures and links, and the zones' sums, latches and statuses. -/
abbrev LineKeeps (s t : State) : Prop := Keeps Slot.unlinked Zone.unsummed s t

theorem Cascade.onLine {X : SlotId → Prop} {t : State} (h : Cascade X Slot.unfaulted Zone.unsummed s t) : LineKeeps s t :=
  h.toKeeps.weaken (by intro _; rfl) (by intro _; rfl)

theorem Cascade.onLine' {X : SlotId → Prop} {t : State} (h : Cascade X Slot.unfired Zone.unsummed s t) : LineKeeps s t :=
  h.faultable.onLine

theorem Cascade.onLine'' {X : SlotId → Prop} {t : State} (h : Cascade X Slot.still id s t) : LineKeeps s t :=
  h.unfaulted.onLine

theorem eachSlot_keeps {π : Slot → Slot} {ζ : Zone → Zone} (l : List SlotId) (f : SlotId → State → State)
    (h : ∀ i ∈ l, ∀ s, Keeps π ζ s (f i s)) (s : State) : Keeps π ζ s (s.eachSlot l f) := by
  unfold State.eachSlot
  induction l generalizing s with
  | nil => exact Keeps.refl _ _ _
  | cons i l ih => exact (h i (by simp) s).trans (ih (fun j hj => h j (by simp [hj])) _)

theorem eachZone_keeps {π : Slot → Slot} {ζ : Zone → Zone} (l : List ZoneId) (f : ZoneId → State → State)
    (h : ∀ z ∈ l, ∀ s, Keeps π ζ s (f z s)) (s : State) : Keeps π ζ s (s.eachZone l f) := by
  unfold State.eachZone
  induction l generalizing s with
  | nil => exact Keeps.refl _ _ _
  | cons i l ih => exact (h i (by simp) s).trans (ih (fun j hj => h j (by simp [hj])) _)

theorem eachLine_keeps {π : Slot → Slot} {ζ : Zone → Zone} (f : LineId → State → State)
    (h : ∀ l s, Keeps π ζ s (f l s)) (s : State) : Keeps π ζ s (s.eachLine f) := by
  unfold State.eachLine allLines
  exact (((h .a s).trans (h .b _)).trans (h .c _)).trans (h .d _)

/-! ## Transactions -/

theorem raiseAll_line (k : Notice) : LineKeeps s (s.raiseAll k) := (raiseAll_cascade (X := fun _ => False) k).toKeeps

theorem place_line (l : LineId) (t : Trans) : LineKeeps s (s.place l t) := (place_cascade (X := fun _ => False) l t).toKeeps

theorem settle_line (l : LineId) : LineKeeps s (s.settle l) := (settle_cascade (X := fun _ => False) l).onLine''

theorem takeNext_line (l : LineId) : LineKeeps s (s.takeNext l) := by
  unfold State.takeNext
  exact (Keeps.modDline l _).trans (sendNext_cascade (X := fun _ => False) l).toKeeps

theorem endFlight_line (l : LineId) : LineKeeps s (s.endFlight l) := Keeps.modDline l _

theorem withdraw_line (l : LineId) (which : Trans → Bool) : LineKeeps s (s.withdraw l which) := Keeps.modDline l _

theorem linkLoss_line (i : SlotId) : LineKeeps s (s.linkLoss i) := (linkLoss_cascade (X := (· = i)) i rfl).onLine

theorem linkOnline_line (i : SlotId) : LineKeeps s (s.linkOnline i) := (linkOnline_cascade (X := (· = i)) i rfl).onLine

theorem availChanged_line (i : SlotId) : LineKeeps s (s.availChanged i) :=
  (availChanged_cascade (X := fun _ => False) i).onLine'

theorem confChanged_line (i : SlotId) : LineKeeps s (s.confChanged i) :=
  (confChanged_cascade (X := fun _ => False) i).onLine'

/-! ## Link states -/

theorem setOffline_line (i : SlotId) : LineKeeps s (s.setOffline i) := Keeps.modSlot i _ (by intro _; rfl)

theorem startProbeTimer_line (i : SlotId) : LineKeeps s (s.startProbeTimer i) := Keeps.modSlot i _ (by intro _; rfl)

theorem stopProbeTimer_line (i : SlotId) : LineKeeps s (s.stopProbeTimer i) := Keeps.modSlot i _ (by intro _; rfl)

theorem startIdleTimer_line (i : SlotId) : LineKeeps s (s.startIdleTimer i) := Keeps.modSlot i _ (by intro _; rfl)

theorem startProfiling_line (i : SlotId) (e : Fin 8) : LineKeeps s (s.startProfiling i e) := by
  unfold State.startProfiling
  exact (Keeps.modSlot i _ (by intro _; rfl)).trans (place_line _ _)

theorem setOnline_line (i : SlotId) : LineKeeps s (s.setOnline i) := by
  unfold State.setOnline
  exact (Keeps.modSlot i _ (by intro _; rfl)).trans (startIdleTimer_line i)

theorem probeAnswered_line (i : SlotId) : LineKeeps s (s.probeAnswered i) := by
  unfold State.probeAnswered
  dsimp only
  refine Keeps.trans (Keeps.trans ?_ (raiseAll_line _)) (availChanged_line i)
  have h : LineKeeps s ((s.stopProbeTimer i).withdraw (s.vent i).line fun u => decide (u = .probe i)) :=
    (stopProbeTimer_line i).trans (withdraw_line _ _)
  split
  · exact h.trans (startProfiling_line i _)
  · exact (h.trans (setOnline_line i)).trans (linkOnline_line i)

theorem profileAnswered_line (i : SlotId) : LineKeeps s (s.profileAnswered i) := by
  unfold State.profileAnswered
  dsimp only
  split
  · exact (Keeps.modSlot i _ (by intro _; rfl)).trans (place_line _ _)
  · refine Keeps.trans (Keeps.trans ?_ (raiseAll_line _)) (availChanged_line i)
    split
    · exact (setOnline_line i).trans (profileRefused_cascade (X := (· = i)) i rfl).onLine
    · exact (setOnline_line i).trans (linkOnline_line i)

theorem profileLostAt_line (i : SlotId) (e : Fin 8) : LineKeeps s (s.profileLostAt i e) := by
  unfold State.profileLostAt
  dsimp only
  refine Keeps.trans (Keeps.trans (Keeps.trans (Keeps.trans ?_ (startProfiling_line i e)) (linkLoss_line i)) (raiseAll_line _))
    (availChanged_line i)
  exact (Keeps.modSlot i _ (by intro _; rfl)).trans (withdraw_line _ _)

theorem linkStep_line (i : SlotId) (t : Trans) : LineKeeps s (s.linkStep i t) := by
  unfold State.linkStep
  split
  · exact probeAnswered_line i
  · split
    · exact profileAnswered_line i
    · exact Keeps.refl _ _ _
  · split
    · split
      · exact profileLostAt_line i _
      · exact Keeps.refl _ _ _
    · exact Keeps.refl _ _ _
  · exact Keeps.refl _ _ _

/-! ## Replies -/

theorem fillHold_line (i : SlotId) : LineKeeps s (s.fillHold i) := by
  unfold State.fillHold
  split
  · have h : LineKeeps s (s.captureHold i) := Keeps.modSlot i _ (by intro _; rfl)
    exact h.trans ((recompose_cascade (X := fun _ => False) i).unfired.weaken (by intro _; rfl) (by intro _; rfl)).onLine'
  · exact Keeps.refl _ _ _

theorem acceptReply_line (l : LineId) (i : SlotId) (t : Trans) (flags hi lo : Byte) :
    LineKeeps s (s.acceptReply l i t flags hi lo) := by
  unfold State.acceptReply
  dsimp only
  refine Keeps.trans (Keeps.trans (Keeps.trans (Keeps.trans (Keeps.trans (Keeps.trans ?_ (confChanged_line i)) (fillHold_line i))
    (Keeps.modDline l _)) (linkStep_line i t)) (judge_cascade (X := (· = i)) i t rfl).onLine) (takeNext_line l)
  exact (endFlight_line l).trans (Keeps.modSlot i _ (by intro _; rfl))

theorem testReply_line (l : LineId) (f : Flight) (left : Nat) (bytes : List Byte) : LineKeeps s (s.testReply l f left bytes) := by
  unfold State.testReply
  split
  · split
    · split
      · exact takeNext_line l
      · exact acceptReply_line _ _ _ _ _ _
    · exact Keeps.modDline l _
  · exact Keeps.modDline l _

theorem receiveByte_line (l : LineId) (b : Byte) : LineKeeps s (s.receiveByte l b) := by
  unfold State.receiveByte
  split
  · split
    · exact Keeps.modDline l _
    · split
      · exact Keeps.modDline l _
      · exact testReply_line _ _ _ _
    · exact Keeps.refl _ _ _
    · exact Keeps.refl _ _ _
  · exact Keeps.refl _ _ _

theorem replyGap_line (l : LineId) : LineKeeps s (s.replyGap l) := by
  unfold State.replyGap
  split
  · split
    · exact Keeps.modDline l _
    all_goals exact Keeps.refl _ _ _
  · exact Keeps.refl _ _ _

theorem requestSent_line (l : LineId) : LineKeeps s (s.requestSent l) := by
  unfold State.requestSent
  split
  · split
    · split
      · exact takeNext_line l
      · exact Keeps.modDline l _
    all_goals exact Keeps.refl _ _ _
  · exact Keeps.refl _ _ _

/-! ## Exhaustion, line reset, restarts -/

theorem recomputeZones_line (zs : List ZoneId) : LineKeeps s (s.recomputeZones zs) :=
  (recomputeZones_cascade (X := fun _ => False) zs).onLine'

theorem dropSlot_line (i : SlotId) : LineKeeps s (s.dropSlot i) := by
  unfold State.dropSlot
  exact ((((setOffline_line i).trans (withdraw_line _ _)).trans (startProbeTimer_line i)).trans (linkLoss_line i)).trans
    (raiseAll_line _)

theorem enterLineReset_line (l : LineId) : LineKeeps s (s.enterLineReset l) := by
  unfold State.enterLineReset
  dsimp only
  refine Keeps.trans ?_ (recomputeZones_line _)
  refine Keeps.trans ?_ (raiseAll_line _)
  refine Keeps.trans ?_ (eachSlot_keeps _ _ (fun i _ _ => stopProbeTimer_line i) _)
  refine Keeps.trans ?_ (eachSlot_keeps _ _ (fun i _ _ => (setOffline_line i).trans (linkLoss_line i)) _)
  exact Keeps.modDline l _

theorem exhausted_line (l : LineId) (i : SlotId) (t : Trans) : LineKeeps s (s.exhausted l i t) := by
  unfold State.exhausted
  dsimp only
  split
  · exact (endFlight_line l).trans (takeNext_line l)
  · by_cases hd : (s.slot i).link = .offline
    · simp only [hd, ne_eq, not_true_eq_false, decide_false, Bool.false_eq_true, if_false]
      have h : LineKeeps s ((s.endFlight l).modDline l fun d => { d with failures := d.failures + 1 }) :=
        (endFlight_line l).trans (Keeps.modDline l _)
      split
      · exact h.trans (enterLineReset_line l)
      · exact h.trans (takeNext_line l)
    · simp only [hd, ne_eq, not_false_eq_true, decide_true, if_true]
      have h : LineKeeps s (((s.endFlight l).dropSlot i).modDline l fun d => { d with failures := d.failures + 1 }) :=
        ((endFlight_line l).trans (dropSlot_line i)).trans (Keeps.modDline l _)
      split
      · exact h.trans (enterLineReset_line l)
      · exact ((h.trans (availChanged_line i)).trans (confChanged_line i)).trans (takeNext_line l)

theorem replyTimeoutAt_line (l : LineId) : LineKeeps s (s.replyTimeoutAt l) := by
  unfold State.replyTimeoutAt
  split
  · split
    · split
      · exact takeNext_line l
      · split
        · exact Keeps.modDline l _
        · split
          · exact exhausted_line _ _ _
          · exact takeNext_line l
    all_goals exact Keeps.refl _ _ _
  · exact Keeps.refl _ _ _

theorem probeAll_line (l : LineId) : LineKeeps s (s.probeAll l) :=
  eachSlot_keeps _ _ (fun i _ _ => (place_line _ _).trans (startProbeTimer_line i)) s

theorem leaveLineReset_line (l : LineId) : LineKeeps s (s.leaveLineReset l) := by
  unfold State.leaveLineReset
  dsimp only
  refine Keeps.trans (Keeps.trans (Keeps.trans ?_ (probeAll_line l)) (raiseAll_line _)) (settle_line l)
  split
  · exact (Keeps.modDline l _).trans (place_line _ _)
  · exact Keeps.modDline l _

theorem warmLine_line (l : LineId) : LineKeeps s (s.warmLine l) := by
  unfold State.warmLine
  dsimp only
  have h : ∀ (l' : List SlotId) (t : State),
      LineKeeps t (t.eachSlot l' fun i u => (u.setOffline i).stopProbeTimer i) := fun l' t =>
    eachSlot_keeps _ _ (fun i _ _ => (setOffline_line i).trans (stopProbeTimer_line i)) t
  split
  · exact (Keeps.modDline l _).trans (h _ _)
  · exact (((Keeps.modDline l _).trans (h _ _)).trans (place_line _ _)).trans (probeAll_line l)

/-! ## Weather (chapter 4) -/

/-- What a weather event may not change: everything but the Weather Processor, the slots' moves, faults, composed pairs, fire
values, classes and ceilings, and the zones' sums, latches and statuses. -/
abbrev WeatherKeeps (s t : State) : Prop := Keeps Slot.becalmed Zone.unsummed s t

theorem writeClasses_weather : WeatherKeeps s s.writeClasses :=
  eachSlot_keeps _ _ (fun i _ _ => Keeps.modSlot i _ (by intro _; rfl)) s

theorem handOn_cascade {X : SlotId → Prop} (t : State) : Cascade X Slot.unfired Zone.unsummed t (s.handOn t) := by
  unfold State.handOn
  exact (eachZone_cascade _ _ (fun z _ _ => recomputeAvail_cascade z) t).trans
    (eachSlot_cascade _ _ (fun i _ _ => (refire_cascade i).weaken (by intro _; rfl) (by intro _; rfl)) _)

theorem reclassify_weather : WeatherKeeps s s.reclassify := by
  unfold State.reclassify
  exact writeClasses_weather.trans
    ((handOn_cascade (X := fun _ => False) _).toKeeps.weaken (by intro _; rfl) (by intro _; rfl))

end Sys2Proof.Machine
end

