-- ==== Sys2Proof/Laws/Lines.lean ====
section
/-!
SUPPORT. The transaction queue (R118) and the bytes of a reply (R120): which transaction is taken next, and what five bytes
received in succession come to.
-/

namespace Sys2Proof.Machine

/-- There are seven transaction kinds (R117). -/
theorem Trans.kind_lt (t : Trans) : t.kind < 7 := by cases t <;> simp [Trans.kind]

/-- Searching kinds in rising order finds the lowest kind present, and its oldest transaction. -/
theorem findSome_kind (q : List Trans) (n m : Nat) (h : ∀ u ∈ q, m ≤ u.kind) :
    match (List.range' m n).findSome? (fun k => q.find? fun t => t.kind == k) with
    | none => ∀ u ∈ q, m + n ≤ u.kind
    | some t => ∃ a b, q = a ++ t :: b ∧ (∀ u ∈ a, t.kind < u.kind) ∧ ∀ u ∈ b, t.kind ≤ u.kind := by
  induction n generalizing m with
  | zero => simpa using h
  | succ n ih =>
    rw [List.range'_succ, List.findSome?_cons]
    cases hf : q.find? (fun t => t.kind == m) with
    | some t =>
      simp only
      obtain ⟨ht, a, b, hq, ha⟩ := List.find?_eq_some_iff_append.1 hf
      have htk : t.kind = m := by simpa using ht
      refine ⟨a, b, hq, ?_, ?_⟩
      · intro u hu
        have h1 := h u (by rw [hq]; simp [hu])
        have h2 := ha u hu
        simp at h2
        omega
      · intro u hu
        have h1 := h u (by rw [hq]; simp [hu])
        omega
    | none =>
      simp only
      have h' : ∀ u ∈ q, m + 1 ≤ u.kind := by
        intro u hu
        have h1 := h u hu
        have h2 := List.find?_eq_none.1 hf u hu
        simp at h2; omega
      have := ih (m + 1) h'
      split at this
      · intro u hu; have := this u hu; omega
      · exact this

/-- What `nextTrans` takes: nothing from an empty queue, else a transaction of the first kind present and the oldest of it. -/
theorem nextTrans_spec (q : List Trans) :
    match nextTrans q with
    | none => ∀ u ∈ q, 7 ≤ u.kind
    | some t => ∃ a b, q = a ++ t :: b ∧ (∀ u ∈ a, t.kind < u.kind) ∧ ∀ u ∈ b, t.kind ≤ u.kind := by
  have := findSome_kind q 7 0 (by simp)
  rw [← List.range_eq_range'] at this
  simpa [nextTrans] using this

/-- Five bytes received in succession while a slot's reply is waited for: the fifth is tested with the four before it. -/
theorem replyBytes_five (s : State) (l : LineId) (f : Flight) (ms : Nat) (a b c d e : Byte)
    (hf : (s.dline l).flight = some f) (hp : f.phase = .waiting ms) :
    s.replyBytes l [a, b, c, d, e] =
      (s.modDline l fun x => { x with flight := some { f with phase := .receiving ms [a, b, c, d] 2 } }).testReply l
        { f with phase := .receiving ms [a, b, c, d] 2 } ms [a, b, c, d, e] := by
  simp only [State.replyBytes, List.foldl]
  have h1 : s.receiveByte l a = s.modDline l fun x => { x with flight := some { f with phase := .receiving ms [a] 2 } } := by
    simp [State.receiveByte, hf, hp]
  rw [h1]
  simp [State.receiveByte, State.modDline_modDline]

end Sys2Proof.Machine
end

