-- ==== Sys2Proof/Laws/Operands.lean ====
section
/-!
SUPPORT. Operand forms: a 16-bit value comes back from its two bytes, a list of values from its bytes, and the five-byte check
is a sum.
-/

namespace Sys2Proof.Machine

/-- A 16-bit value comes back from its two bytes (R175). -/
theorem word16_of_bytes (w : Word16) : word16 (BitVec.ofNat 8 (w.toNat / 256)) (BitVec.ofNat 8 w.toNat) = w := by
  apply BitVec.eq_of_toNat_eq
  simp [word16]; omega

/-- As `word16_of_bytes`, with the low byte as simp writes it. -/
theorem word16_of_bytes_setWidth (w : Word16) : word16 (BitVec.ofNat 8 (w.toNat / 256)) (w.setWidth 8) = w := by
  have h := word16_of_bytes w
  rwa [BitVec.ofNat_toNat] at h

/-- Two bytes read as a number, high byte first (R175). -/
theorem word16_toNat (hi lo : Byte) : (word16 hi lo).toNat = hi.toNat * 256 + lo.toNat := by
  simp [word16]; omega

/-- A list of values comes back from its bytes. -/
theorem wordsOf_bytes (vs : List Word16) : wordsOf (vs.flatMap fun v => bytes16 v.toNat) = some vs := by
  induction vs with
  | nil => rfl
  | cons v vs ih =>
    have h := word16_of_bytes v
    simp only [List.flatMap_cons, bytes16, List.cons_append, List.nil_append, wordsOf, h]
    simp only [bytes16] at ih
    rw [ih]; rfl

/-- The check of a five-byte reply (R120). -/
theorem sumsToZero_five (a b c d e : Byte) : sumsToZero [a, b, c, d, e] = decide (a + b + c + d + e = 0) := by
  simp [sumsToZero, beq_eq_decide]

/-- The check of a seven-byte weather record (R70). -/
theorem sumsToZero_seven (a b c d e f g : Byte) :
    sumsToZero [a, b, c, d, e, f, g] = decide (a + b + c + d + e + f + g = 0) := by
  simp [sumsToZero, beq_eq_decide]

/-- A frame with its check byte sums to 0 (R179). -/
theorem framed_sum (bytes : List Byte) : (framed bytes).foldl (· + ·) 0 = 0 := by
  simp [framed, checkByte, List.foldl_append]

end Sys2Proof.Machine
end

