-- ==== Sys2Proof/Laws/Ports.lean ====
section
/-!
SUPPORT. The event wrapper, the capture schedule and the taking of a command: what each can answer, said once.
-/

namespace Sys2Proof.Machine

variable (s : State)

/-! ## The event wrapper (R173, R162) -/

/-- An event with the reset pin released. -/
theorem event_next (f : State → State) (h : s.resetPin = false) : event f s = .next (f s).advanceCaptures := by
  simp [event, h]

/-- An event while the reset pin is asserted. -/
theorem event_asserted (f : State → State) (h : s.resetPin = true) : event f s = .next s := by
  simp [event, h]

/-- Every event answers a next state. -/
theorem event_total (f : State → State) : event f s = .next (if s.resetPin then s else (f s).advanceCaptures) := rfl

namespace State

/-! ## Preparations go on -/

@[simp] theorem advanceCaptures_resetPin : s.advanceCaptures.resetPin = s.resetPin := rfl
@[simp] theorem advanceCaptures_mode : s.advanceCaptures.mode = s.mode := rfl
@[simp] theorem advanceCaptures_tables : s.advanceCaptures.tables = s.tables := rfl
@[simp] theorem advanceCaptures_slots : s.advanceCaptures.slots = s.slots := rfl
@[simp] theorem advanceCaptures_zones : s.advanceCaptures.zones = s.zones := rfl
@[simp] theorem advanceCaptures_alarms : s.advanceCaptures.alarms = s.alarms := rfl
@[simp] theorem advanceCaptures_wx : s.advanceCaptures.wx = s.wx := rfl
@[simp] theorem advanceCaptures_motion : s.advanceCaptures.motion = s.motion := rfl
@[simp] theorem advanceCaptures_dlc : s.advanceCaptures.dlc = s.dlc := rfl
@[simp] theorem advanceCaptures_eng : s.advanceCaptures.eng = s.eng := rfl
@[simp] theorem advanceCaptures_captures : s.advanceCaptures.captures = s.captures := rfl
@[simp] theorem advanceCaptures_pending : s.advanceCaptures.pending = s.pending := rfl
@[simp] theorem advanceCaptures_vent (i : SlotId) : s.advanceCaptures.vent i = s.vent i := rfl
@[simp] theorem advanceCaptures_slot (i : SlotId) : s.advanceCaptures.slot i = s.slot i := rfl
@[simp] theorem advanceCaptures_zone (z : ZoneId) : s.advanceCaptures.zone z = s.zone z := rfl
@[simp] theorem advanceCaptures_mline (l : LineId) : s.advanceCaptures.mline l = s.mline l := rfl
@[simp] theorem advanceCaptures_dline (l : LineId) : s.advanceCaptures.dline l = s.dline l := rfl
@[simp] theorem advanceCaptures_portCfg (p : PortId) : s.advanceCaptures.portCfg p = s.portCfg p := rfl

@[simp] theorem advanceCaptures_port (p : PortId) : s.advanceCaptures.port p = (s.port p).advance s := by
  cases p <;> simp [advanceCaptures, modPort_port]

end State

/-- An event leaves everything of a port but the records of a reply being prepared. -/
theorem Port.advance_eq (pt : Port) : pt.advance s = { pt with prep := pt.prep.map fun q => q.advance s } := by
  unfold Port.advance
  cases h : pt.prep <;> simp
  rw [← h]

@[simp] theorem Port.advance_apart (pt : Port) : (pt.advance s).apart = pt.apart := by simp [Port.advance_eq, Port.apart]
@[simp] theorem Port.advance_flags (pt : Port) : (pt.advance s).flags = pt.flags := by simp [Port.advance_eq]
@[simp] theorem Port.advance_reply (pt : Port) : (pt.advance s).reply = pt.reply := by simp [Port.advance_eq]
@[simp] theorem Port.advance_frame (pt : Port) : (pt.advance s).frame = pt.frame := by simp [Port.advance_eq]
@[simp] theorem Port.advance_notice (pt : Port) (k : Notice) : (pt.advance s).notice k = pt.notice k := by
  simp [Port.notice]
@[simp] theorem Port.advance_isSome (pt : Port) : (pt.advance s).prep.isSome = pt.prep.isSome := by simp [Port.advance_eq]

/-- Every frame takes in the going on of preparations. -/
theorem Keeps.advance {π : Slot → Slot} {ζ : Zone → Zone} {s t : State} (h : Keeps π ζ s t) : Keeps π ζ s t.advanceCaptures :=
  { h with
    ports := fun p => by simpa using h.ports p
    preparing := fun p => by simpa using h.preparing p
    flags := fun p k e => by simpa using h.flags p k e }

/-! ## Taking a command (R160) -/

namespace State

/-- A reply installed and the input buffer emptied. -/
theorem install_reply (p : PortId) (r : Reply) : (s.install p (.reply r)).clearInput p = s.replied p r := by
  simp [install, clearInput, replied, modPort_modPort]

/-- A preparation begun and the input buffer emptied. -/
theorem install_prepare (p : PortId) (todo : List Capture) (tail : List Byte) :
    (s.install p (.prepare todo tail)).clearInput p = s.preparing p todo tail := by
  cases p <;> simp [install, clearInput, preparing, modPort]

/-- The whole of what taking a command can do. -/
theorem take_eq (p : PortId) (ports : List PortId) (runOnly : Bool) (block : State → State × Answer) :
    s.take p ports runOnly block =
      if (s.port p).prep.isSome then s
      else if p ∉ ports then s.replied p { status := .badCommand }
      else if runOnly ∧ s.mode = .unconfigured then s.replied p { status := .notReady }
      else
        match (block s).2 with
        | .reply r => (block s).1.replied p r
        | .prepare todo tail => (block s).1.preparing p todo tail := by
  unfold take answer
  simp only [install_reply]
  split
  · rfl
  · split
    · rfl
    · split
      · rfl
      · cases h : (block s).2
        · simp [install_reply]
        · simp [install_prepare]

end State

/-- A command taken by its block, which answers a whole reply. -/
theorem exec_take_reply {p : PortId} {ports : List PortId} {runOnly : Bool} {block : State → State × Answer} {t : State}
    {r : Reply} (hs : s.ready p) (hp : p ∈ ports) (hm : runOnly = true → s.mode = .run) (hb : block s = (t, .reply r)) :
    event (State.take p ports runOnly block) s = .next (t.replied p r).advanceCaptures := by
  rw [event_next s _ hs.1, State.take_eq, hb]
  have h : ¬ (runOnly = true ∧ s.mode = .unconfigured) := fun e => by simp [hm e.1] at e
  simp [hs.2, hp, h]

/-- A command taken by its block, which begins to prepare a reply. -/
theorem exec_take_prepare {p : PortId} {ports : List PortId} {block : State → State × Answer} {t : State}
    {todo : List Capture} {tail : List Byte} (hs : s.ready p) (hp : p ∈ ports) (hb : block s = (t, .prepare todo tail)) :
    event (State.take p ports false block) s = .next (t.preparing p todo tail).advanceCaptures := by
  rw [event_next s _ hs.1, State.take_eq, hb]
  simp [hs.2, hp]

end Sys2Proof.Machine
end

