-- ==== Sys2Proof/Laws/Records.lean ====
section
/-!
SUPPORT. The 37 bytes of READ_STATUS as one list, the bytes a query captures under a port update, and captures under a port
update.
-/

namespace Sys2Proof.Machine

variable (s : State)

/-- READ_STATUS as one list (R164, R176). -/
theorem statusRecord_eq (p : PortId) : s.statusRecord p =
    [0x41, 0x01, BitVec.ofNat 8 s.mode.code] ++ bytes16 (s.port p).flags.toNat ++
    bytes16 (s.portCfg p).enables.toNat ++ bytes16 (s.port p).errors ++
    ([match s.eng.op with | none => 0 | some o => if o.feeding then 2 else 1,
      match s.eng.op with | none => 0 | some o => o.kind.code,
      s.eng.outcome.code, s.eng.written, s.eng.skipped, s.eng.refused, s.eng.remaining, s.eng.fifo.length,
      (if s.eng.fifo.length = 0 then 0 else 1) + (if s.eng.fifo.length < 8 then 0 else 2) +
        (if s.eng.fifo.length = 16 then 4 else 0),
      s.eng.window.xs, s.eng.window.xe, s.eng.window.ys, s.eng.window.ye,
      (if s.eng.window.mv then 1 else 0) + (if s.eng.window.mx then 2 else 0) +
        (if s.eng.window.my then 4 else 0)].map (BitVec.ofNat 8)) ++
    s.alarmRecord ++
    ([(if s.wx.live then 1 else 0) + (if s.wx.gate then 2 else 0) + 4 * s.wx.storm.code + 16 * s.wx.rain.code,
      (s.mline .a).power.code + 4 * (s.dline .a).state.code,
      (s.mline .b).power.code + 4 * (s.dline .b).state.code,
      (s.mline .c).power.code + 4 * (s.dline .c).state.code,
      (s.mline .d).power.code + 4 * (s.dline .d).state.code].map (BitVec.ofNat 8)) := by
  have b1 : ∀ n, bit (decide (0 < n)) = if n = 0 then 0 else 1 := by intro n; by_cases h : n = 0 <;> simp [bit, h]
  have b2 : ∀ n, 2 * bit (decide (8 ≤ n)) = if n < 8 then 0 else 2 := by intro n; by_cases h : n < 8 <;> simp [bit, h]
  have b3 : ∀ n, 4 * bit (decide (n = 16)) = if n = 16 then 4 else 0 := by intro n; by_cases h : n = 16 <;> simp [bit, h]
  have c1 : ∀ b, bit b = if b = true then 1 else 0 := by intro b; rfl
  have c2 : ∀ b : Bool, 2 * (if b = true then 1 else 0) = if b = true then 2 else 0 := by intro b; cases b <;> rfl
  have c4 : ∀ b : Bool, 4 * (if b = true then 1 else 0) = if b = true then 4 else 0 := by intro b; cases b <;> rfl
  unfold State.statusRecord
  simp only [byte8, bytes16, State.weatherSummary]
  simp only [allLines, State.lineSummary, List.flatMap_cons, List.flatMap_nil]
  simp only [List.append_assoc, List.cons_append, List.nil_append, List.map]
  simp only [b1, b2, b3]
  simp only [c1, c2, c4, BitVec.ofNat_eq_ofNat]
  simp only [byte8, List.cons_append, List.nil_append]
  all_goals rfl

/-- No captured record reads a port. -/
theorem captureBytes_modPort (p : PortId) (f : Port → Port) (c : Capture) :
    (s.modPort p f).captureBytes c = s.captureBytes c := by
  cases c <;> rfl

/-- A preparation goes on alike whatever a port holds. -/
theorem Port.advance_modPort (p : PortId) (f : Port → Port) (pt : Port) : pt.advance (s.modPort p f) = pt.advance s := by
  unfold Port.advance Prep.advance Prep.capture
  have : (s.modPort p f).captureBytes = s.captureBytes := by funext c; exact captureBytes_modPort s p f c
  simp only [this]

/-- Captures and a port update that leaves the preparation alone can change places. -/
theorem advanceCaptures_modPort (p : PortId) (f : Port → Port) (hf : ∀ pt, (f pt).advance s = f (pt.advance s)) :
    (s.modPort p f).advanceCaptures = s.advanceCaptures.modPort p f := by
  have hp : ∀ a b : State, (∀ q, a.port q = b.port q) → a.ports = b.ports := by
    intro a b h
    have h1 := h .f; have h2 := h .b; have h3 := h .o
    simp only [State.port, PortId.idx] at h1 h2 h3
    apply Vector.ext; intro i hi
    have : i = 0 ∨ i = 1 ∨ i = 2 := by omega
    rcases this with rfl | rfl | rfl <;> assumption
  have h : (s.modPort p f).advanceCaptures.ports = (s.advanceCaptures.modPort p f).ports := by
    apply hp
    intro q
    rw [State.advanceCaptures_port, State.modPort_port, State.modPort_port, Port.advance_modPort, State.advanceCaptures_port]
    split <;> simp_all
  have e : ∀ a b : State, a.ports = b.ports → { a with ports := b.ports } = a := by rintro a b h; cases a; cases b; simp_all
  rw [← e _ _ h]
  rfl

end Sys2Proof.Machine
end

