-- ==== Sys2Proof/Laws/Weng.lean ====
section
/-!
SUPPORT. The Window Engine's request to one slot (R38, R140): what it counts, what it writes and what it leaves as it was.
-/

namespace Sys2Proof.Machine

variable (s : State)

/-- A recomposition leaves every BMS entry as it was (R20). -/
theorem recompose_bms (i j : SlotId) : ((s.recompose i).slot j).bms = (s.slot j).bms :=
  congrArg (fun r => r.bms) ((recompose_cascade (X := fun _ => False) (s := s) i).slots j)

/-- The result a request counts. -/
theorem applyRequest_eng (i : SlotId) (q : Request) : (s.applyRequest i q).eng =
    { s.eng with
      skipped := s.eng.skipped + (if ¬ (s.vent i).mapped = true then 1 else 0)
      written := s.eng.written + (if (s.vent i).mapped = true ∧ q ≠ .leave ∧ s.claimAllowed .b i = true then 1 else 0)
      refused := s.eng.refused + (if (s.vent i).mapped = true ∧ q ≠ .leave ∧ ¬ s.claimAllowed .b i = true then 1 else 0) } := by
  have hw : ∀ (s : State) v, (s.writeBms i v).eng = s.eng := fun s v =>
    (writeBms_cascade (X := fun _ => False) (s := s) i v).eng
  cases hm : (s.vent i).mapped <;> cases hc : s.claimAllowed .b i <;> cases q <;> simp [State.applyRequest, hm, hc, hw]

/-- What a request leaves as it was. -/
theorem applyRequest_keeps (i : SlotId) (q : Request) :
    Keeps (fun r => { r.untargeted with bms := none }) id { s with eng := (s.applyRequest i q).eng } (s.applyRequest i q) := by
  have hw : ∀ (u : State) v, u = { s with eng := u.eng } →
      Keeps (fun r => { r.untargeted with bms := none }) id { s with eng := (u.writeBms i v).eng } (u.writeBms i v) := by
    intro u v hu
    have h := writeBms_cascade (X := fun _ => False) (s := u) i v
    have e : { s with eng := (u.writeBms i v).eng } = u := by rw [h.eng]; exact hu.symm
    rw [e]; exact h.toKeeps
  cases hm : (s.vent i).mapped <;> cases hc : s.claimAllowed .b i <;> cases q <;>
    simp only [State.applyRequest, hm, hc, if_true, Bool.false_eq_true, if_false] <;>
    first | exact Keeps.refl _ _ _ | (apply hw; rfl)

/-- A BMS entry after a request that is allowed. -/
def Request.result : Request → Option Nat → Option Nat
  | .set v, _ => some v
  | .clear, _ => none
  | .leave, old => old

/-- Every slot's BMS entry after a request. -/
theorem applyRequest_bms (i : SlotId) (q : Request) (j : SlotId) : ((s.applyRequest i q).slot j).bms =
    if j = i ∧ (s.vent i).mapped = true ∧ s.claimAllowed .b i = true then q.result (s.slot j).bms else (s.slot j).bms := by
  have hw : ∀ (u : State) v, u.slots = s.slots → ((u.writeBms i v).slot j).bms = if j = i then v else (s.slot j).bms := by
    intro u v hu
    rw [State.writeBms, recompose_bms, State.modSlot_slot]
    have : u.slot j = s.slot j := by simp [State.slot, hu]
    by_cases h : i = j
    · subst h; simp
    · simp [h, Ne.symm h, this]
  cases hm : (s.vent i).mapped <;> cases hc : s.claimAllowed .b i <;> cases q <;>
    simp only [State.applyRequest, hm, hc, if_true, Bool.false_eq_true, if_false, and_false, and_true, and_self] <;>
    first | rfl | exact hw _ _ rfl | (simp [Request.result]; done)

/-- A request that writes nothing leaves every slot as it was. -/
theorem applyRequest_same (i : SlotId) (q : Request)
    (h : ¬ (s.vent i).mapped = true ∨ ¬ s.claimAllowed .b i = true ∨ q = .leave) : (s.applyRequest i q).slots = s.slots := by
  cases hm : (s.vent i).mapped <;> cases hc : s.claimAllowed .b i <;> cases q <;> simp_all [State.applyRequest]

/-- A change of the engine alone keeps a frame in which the engine is left out. -/
theorem Keeps.modEng {π : Slot → Slot} {ζ : Zone → Zone} {s t : State} (h : Keeps π ζ { s with eng := t.eng } t)
    (f : Engine → Engine) : Keeps π ζ { s with eng := (t.modEng f).eng } (t.modEng f) :=
  { h with eng := rfl }

/-- The end of an operation keeps a frame in which the engine is left out (R156). -/
theorem Keeps.endOp {π : Slot → Slot} {ζ : Zone → Zone} {s t : State} (h : Keeps π ζ { s with eng := t.eng } t)
    (out : EngOutcome) : Keeps π ζ { s with eng := (t.endOp out).eng } (t.endOp out) :=
  (h.modEng fun e =>
    { e with op := none, hand := none, snapshot := [], fifo := [], feed := .stopped, outcome := out, due := .none }).trans
      (raiseOn_cascade (X := fun _ => False) (π := π) (ζ := ζ) .b .opDone).toKeeps

end Sys2Proof.Machine
end

