-- ==== Sys2Proof/Laws/Wxp.lean ====
section
/-!
SUPPORT. Bounds of the Weather Processor's arithmetic (R78, R79).
-/

namespace Sys2Proof.Machine

/-- The signed shortest difference lies in −1800 to 1799 (R78). -/
theorem angleDiff_bounds (a b : Nat) : -1800 ≤ angleDiff a b ∧ angleDiff a b ≤ 1799 := by unfold angleDiff; omega

/-- A step truncated toward zero lies between 0 and the whole difference. -/
theorem tdiv_between (x : Int) (k : Nat) :
    (0 ≤ x → 0 ≤ x.tdiv (2 ^ k) ∧ x.tdiv (2 ^ k) ≤ x) ∧ (x ≤ 0 → x ≤ x.tdiv (2 ^ k) ∧ x.tdiv (2 ^ k) ≤ 0) := by
  have hp : (0 : Int) < 2 ^ k := by positivity
  refine ⟨fun h => ?_, fun h => ?_⟩
  · rw [Int.tdiv_eq_ediv_of_nonneg h]
    exact ⟨Int.ediv_nonneg h hp.le, Int.ediv_le_self _ h⟩
  · have e : x.tdiv (2 ^ k) = - ((-x).tdiv (2 ^ k)) := by rw [Int.neg_tdiv]; simp
    rw [e, Int.tdiv_eq_ediv_of_nonneg (by omega)]
    have h1 := Int.ediv_nonneg (a := -x) (b := 2 ^ k) (by omega) hp.le
    have h2 := Int.ediv_le_self (a := -x) (2 ^ k) (by omega)
    omega

/-- The smoothed direction is an angle (R78). -/
theorem smoothDir_lt (k sdir theta : Nat) : smoothDir k sdir theta < 3600 := by unfold smoothDir; omega

/-- The smoothed speed lies between the old one and the record's (R79). -/
theorem smoothSpeed_between (k sv v : Nat) : min sv v ≤ smoothSpeed k sv v ∧ smoothSpeed k sv v ≤ max sv v := by
  have := tdiv_between ((v : Int) - sv) k
  unfold smoothSpeed
  omega

end Sys2Proof.Machine
end

