-- ==== Sys2Proof/Tests/Slice0.lean ====
section
/-!
SUPPORT. The model's own tests: the well-formedness check refuses what it should, commands give the values the spec works
out, and every statement with hypotheses has a state and operands that meet all of them.
-/

namespace Sys2Proof.Tests

set_option Elab.async false

open Sys2Proof.Machine

/-! ## Small states -/

/-- The part in RUN with nothing mapped. -/
def run : State := { State.reset with mode := .run }

/-- The state an outcome leaves. -/
def after (o : Host.Outcome State Fault Refusal) : State :=
  match o with
  | .next s => s
  | .fault _ => State.reset
  | .refused _ => State.reset

/-- A vent of line A, zone 0, with bus address 5. -/
def vent : VentCfg := { mapped := true, bus := 5, tag := 0x0012, facing := .angle 0 }

/-- A state with one slot mapped. -/
def cfg (i : SlotId) (v : VentCfg) (s : State) : State :=
  { s with tables := { s.tables with vents := s.tables.vents.set i v } }

/-- A slot ONLINE and IDLE at position 300. -/
def online : Slot := { link := .online, motion := .idle, position := some 300, target := some 300 }

/-- One vent in RUN at slot 17, with its runtime part. -/
def one (r : Slot) : State := (cfg 17 vent run).modSlot 17 fun _ => r

/-- A transaction in flight on line A. -/
def fly (f : Flight) (s : State) : State := s.modDline .a fun d => { d with flight := some f }

/-- A port with no reply being prepared is ready while the reset pin is released. -/
theorem ready_of {s : State} {p : PortId} (h : (!s.resetPin && (s.port p).prep.isNone) = true) : s.ready p := by
  simpa [State.ready] using h

/-! ## Well-formedness (R157) -/

theorem test_wf_cfgWrite_too_long : (Instr.cfgWrite .b 0 0 (List.replicate 126 0)).wf = false := by decide +kernel
theorem test_wf_cfgWrite_longest : (Instr.cfgWrite .b 0 0 (List.replicate 125 0)).wf = true := by decide +kernel
theorem test_wf_patternLoad_too_long : (Instr.patternLoad .b (List.replicate 65 0)).wf = false := by decide
theorem test_wf_patternLoad : (Instr.patternLoad .b (List.replicate 16 0)).wf = true := by decide

/-! ## The table gives no bits -/

theorem test_no_word_decodes (nbits w : Nat) : decodeTableWord nbits w = none := rfl
theorem test_withFetchWord (s : State) (nbits w : Nat) : s.withFetchWord nbits w = s := rfl

/-! ## Worked values of the spec -/

/-- The POLL to bus address 5 (R179). -/
theorem test_poll_frame : (one {}).requestBytes (.probe 17) = [0x05, 0x01, 0xFA] := by decide +kernel

/-- The MOVE and the STOP_ALL (R179): sums of 0. -/
theorem test_move_frame : (one {}).requestBytes (.move 17 1000 true) = [0x05, 0x02, 0x03, 0xE8, 0x01, 0x0D] := by
  decide +kernel
theorem test_stopAll_frame : run.requestBytes .stopAll = [0x00, 0x05, 0xFB] := by decide +kernel

/-- The reply from bus address 5 at position 1000 with at_open set (R179). -/
theorem test_driveLineReply :
    let t := after (exec (.driveLineReply .a 0x85 0x02 0x03 0xE8 0x8E)
      (fly { trans := .pollIdle 17, phase := .waiting 4 } (one { online with target := some 1000 })))
    (t.slot 17).position = some 1000 ∧ (t.slot 17).flags = 0x02 ∧ (t.dline .a).flight = none := by decide +kernel

/-- A reply whose check is wrong by one is discarded (R120). -/
theorem test_driveLineReply_bad_check :
    (after (exec (.driveLineReply .a 0x85 0x02 0x03 0xE8 0x8F)
      (fly { trans := .pollIdle 17, phase := .waiting 4 } (one online)))).slot 17 = online := by decide +kernel

/-- The first byte of a reply stops the reply timer (R120). -/
theorem test_lineByteReceived :
    ((after (exec (.lineByteReceived .a 0x85) (fly { trans := .pollIdle 17, phase := .waiting 4 } run))).dline .a).flight =
      some { trans := .pollIdle 17, phase := .receiving 4 [0x85] 2 } := by decide +kernel

/-- The gap resumes the reply timer (R120). -/
theorem test_replyGapExpiry :
    ((after (exec (.replyGapExpiry .a) (fly { trans := .pollIdle 17, phase := .receiving 4 [0x85] 0 } run))).dline .a).flight =
      some { trans := .pollIdle 17, phase := .waiting 4 } := by decide +kernel

/-- The reply timeout is (code + 1) × 2 ms: 10 ms at the reset code 4 (R116, R119). -/
theorem test_endOfRequest :
    ((after (exec (.endOfRequest .a) (fly { trans := .probe 17 } run))).dline .a).flight =
      some { trans := .probe 17, phase := .waiting 10 } := by decide +kernel

/-- The second attempt of three (R122). -/
theorem test_replyTimerExpiry_retries :
    ((after (exec (.replyTimerExpiry .a) (fly { trans := .probe 17, phase := .waiting 0 } run))).dline .a).flight =
      some { trans := .probe 17, attempt := 2 } := by decide +kernel

/-- The weather record of R70, taken while UNCONFIGURED. -/
theorem test_weather_record :
    let t := after (exec (.weatherByte 0xF8) (State.reset.modWx fun w => { w with rx := [0xA5, 0x03, 0x20, 0x00, 0x40, 0x00] }))
    t.wx.last = { received := true, dir := 800, speed := 64 } ∧ t.wx.rx = [] ∧ t.wx.errors = 0 := by decide +kernel

/-- A byte that is not the sync byte is thrown away in HUNTING (R68). -/
theorem test_weatherByte_hunting : (after (exec (.weatherByte 0x20) State.reset)).wx = {} := by decide +kernel

theorem test_framingError :
    let t := after (exec .framingError (State.reset.modWx fun w => { w with rx := [0xA5], gap := .running 3 }))
    t.wx = { errors := 1 } := by decide +kernel

theorem test_gapExpiry_count_stays :
    let t := after (exec .gapExpiry (State.reset.modWx fun w => { w with rx := [0xA5], gap := .running 0, errors := 65535 }))
    t.wx = { errors := 65535 } := by decide +kernel

/-- Smoothing as R78 and R79 work it out. -/
theorem test_smoothDir : smoothDir 3 3500 100 = 3525 ∧ smoothDir 3 0 1800 = 3375 := by decide
theorem test_smoothSpeed : smoothSpeed 3 40 75 = 44 ∧ smoothSpeed 3 75 40 = 71 := by decide

/-- The hardware-reset records of R177. -/
theorem test_cfgRead_vent : State.reset.tables.read 0 191 =
    some [0x00, 0x00, 0x01, 0x00, 0x00, 0xFF, 0xFF, 0x00, 0x01, 0x0A, 0x00, 0x00, 0x00, 0x5A, 0x00, 0x00, 0x00] := by
  decide +kernel
theorem test_cfgRead_policy : ((after (exec (.cfgRead .b 7 2) State.reset)).port .b).reply = { payload := [0x3F] } := by
  decide +kernel
theorem test_cfgWrite_port_address :
    ((after (exec (.cfgWrite .b 6 1 [0x44, 0x7F, 0, 25, 0xFF, 0xFF, 2]) State.reset)).portCfg .b) =
      { addr := 0x44, holds := false, enables := 0x03FF, policy := 2 } := by decide +kernel
theorem test_cfgWrite_facing_out_of_range :
    ((after (exec (.cfgWrite .b 0 0 [1, 0, 1, 0, 0, 0x0E, 0x10, 0, 1, 10, 0, 0, 0, 90, 0, 0, 0]) State.reset)).port .b).reply =
      { status := .badParam } := by decide +kernel
theorem test_cfgDone_locked : ((after (exec (.cfgDone .b) run)).port .b).reply = { status := .locked } := by decide +kernel

/-! ## Frames -/

theorem test_portStart : ((after (exec (.portStart .b) run)).port .b).awaiting = true := by decide +kernel

/-- Address 0x3A is sent as 0x74 to write and 0x75 to read (R175). -/
theorem test_addressByte :
    let s := run.modPort .b fun pt => { pt with awaiting := true }
    ((after (exec (.addressByte .b 0x74) s)).port .b).frame = .write ∧
      ((after (exec (.addressByte .b 0x75) s)).port .b).frame = .read ∧
      ((after (exec (.addressByte .b 0x76) s)).port .b).frame = .ignoring := by decide +kernel

theorem test_writeDataByte_code :
    ((after (exec (.writeDataByte .f 0x10) (run.modPort .f fun pt => { pt with frame := .write }))).port .f).code = some 0x10 := by
  decide +kernel

theorem test_readDataByte :
    let s := run.modPort .b fun pt => { pt with frame := .read, reply := { status := .busy, payload := [7] } }
    ((after (exec (.readDataByte .b) s)).port .b).sent = some 8 ∧
      ((after (exec (.readDataByte .b) (s.modPort .b fun pt => { pt with readIndex := 1 }))).port .b).sent = some 1 ∧
      ((after (exec (.readDataByte .b) (s.modPort .b fun pt => { pt with readIndex := 3 }))).port .b).sent = some 0 := by
  decide +kernel

/-- PORT_STOP takes the command of its frame: WINDOW_SET 4 7 2 3 with MX (R160, R137). -/
theorem test_portStop_windowSet :
    let t := after (exec (.portStop .b)
      (run.modPort .b fun pt => { pt with frame := .write, code := some 0x32, params := [4, 7, 2, 3, 2] }))
    t.eng.window = { xs := 4, xe := 7, ys := 2, ye := 3, mx := true } ∧ (t.port .b).frame = .idle := by decide +kernel

/-- PORT_RESTART takes the command with one parameter short as BAD_PARAM (R176). -/
theorem test_portRestart_short_frame :
    let t := after (exec (.portRestart .b)
      (run.modPort .b fun pt => { pt with frame := .write, code := some 0x32, params := [4, 7, 2, 3] }))
    (t.port .b).reply = { status := .badParam } ∧ (t.port .b).awaiting = true := by decide +kernel

theorem test_holdTimerExpiry :
    let t := after (exec (.holdTimerExpiry .b) (run.modPort .b fun pt => { pt with frame := .holding .readAddress }))
    (t.port .b).errors = 1 ∧ (t.port .b).notice .portErr = true ∧ (t.port .b).readPending = true := by decide +kernel

theorem test_replyReady :
    ((after (exec (.replyReady .b) (run.modPort .b fun pt =>
      { pt with prep := some { todo := [.weather], tail := [0xFF], take := 0 } }))).port .b).reply.payload.length = 18 := by
  decide +kernel

/-! ## Status, notices and queries -/

theorem test_readStatus :
    let r := ((after (exec (.readStatus .f) run)).port .f).reply.payload
    r.length = 37 ∧ r.take 7 = [0x41, 0x01, 1, 0, 0, 0x03, 0xFF] ∧ r.drop 23 = [0, 0xFF, 0xFF, 0xFF, 0xFF, 0xFF, 0xFF, 0xFF, 0xFF,
      40, 0, 0, 0, 0] := by decide +kernel

theorem test_ackNotice :
    let t := after (exec (.ackNotice .f 0x0001) (run.modPort .f fun pt => { pt with flags := 0x0003 }))
    (t.port .f).reply.payload = [0, 3, 0, 2] ∧ t.attention .f = true := by decide +kernel

/-- The reply of a query is emptied when the query is taken (R162). -/
theorem test_queryWeather :
    let t := after (exec (.queryWeather .o) (run.modPort .o fun pt => { pt with reply := { payload := [1] } }))
    (t.port .o).reply = {} ∧ (t.port .o).prep.isSome = true := by decide +kernel
theorem test_queryLines : ((after (exec (.queryLines .o) run)).port .o).prep.isSome = true := by decide +kernel
theorem test_queryZones : ((after (exec (.queryZones .o) run)).port .o).prep.isSome = true := by decide +kernel
theorem test_queryVents : ((after (exec (.queryVents .o 0x0010 0x00F0 0) (one online))).port .o).prep.isSome = true := by
  decide +kernel

theorem test_zoneRecord :
    (State.reset.modZone 3 fun zn =>
      { zn with timer := .running 59901, action := .exhaust, status := .opening }).captureBytes (.zone 3) =
    [3, 0x25, 0, 0, 0, 0, 0, 0, 0, 0, 0, 0x02, 0x58] := by decide +kernel

/-! ## Fire plans, demand layers -/

/-- While UNCONFIGURED the list is recorded and ALARM raised (R47). -/
theorem test_alarm_unconfigured :
    let t := after (exec (.alarm .f 3) State.reset)
    t.alarms = [3] ∧ (t.port .b).notice .alarm = true ∧ (t.port .f).reply = {} := by decide +kernel
theorem test_alarm_zone_out_of_range :
    ((after (exec (.alarm .f 8) State.reset)).port .f).reply = { status := .badParam } := by decide +kernel

/-- In RUN the plan row of the alarm gives the zone its action, its timer and, with no area available, its latch (R50, R51,
R55). -/
theorem test_alarm_in_run :
    let s : State := { run with tables := { run.tables with
      plan := run.tables.plan.set 3 ((Vector.replicate 8 Action.none).set 0 .exhaust)
      zones := run.tables.zones.set 0 { areq := 100, deadline := 60 } } }
    let t := after (exec (.alarm .f 3) s)
    t.zone 0 = { action := .exhaust, status := .opening, latch := true, timer := .running 60000 } ∧
      (t.mline .c).fireLimit = true := by decide +kernel

theorem test_clear : (after (exec (.clear .f 3) { State.reset with alarms := [1, 3, 2] })).alarms = [1, 2] := by decide +kernel
theorem test_clearAll : (after (exec (.clearAll .f) { State.reset with alarms := [1, 3, 2] })).alarms = [] := by decide +kernel

theorem test_deadlineExpiry :
    let t := after (exec (.deadlineExpiry 2) (run.modZone 2 fun zn =>
      { zn with action := .exhaust, status := .opening, timer := .running 0, conf := 0, override := .auto }))
    (t.zone 2).timer = .expired ∧ (t.zone 2).status = .confirmed ∧ (t.port .o).notice .zone = true := by decide +kernel

/-- OVERRIDE of zones 0 and 2 while UNCONFIGURED: the modes alone (R24). -/
theorem test_override :
    let t := after (exec (.override .o 0x05 3) State.reset)
    (t.zone 0).override = .hold ∧ (t.zone 1).override = .auto ∧ (t.zone 2).override = .hold := by decide +kernel

/-- A CLAIM above 1000 is taken as 1000 and limited by the weather ceiling, here 0 (R34, R20). -/
theorem test_claim :
    let t := after (exec (.claim .b 0x0010 0x00F0 0x04B0) (one online))
    (t.slot 17).bms = some 1000 ∧ (t.slot 17).target = some 0 ∧ (t.port .b).reply.payload = [1, 0] := by decide +kernel

/-- A broadcast RELEASE leaves the composed target to the rest position (R16, R35). -/
theorem test_release :
    let t := after (exec (.release .b 0x1234 0) (one { online with bms := some 7 }))
    (t.slot 17).bms = none ∧ (t.slot 17).source = .rest := by decide +kernel

/-! ## Motion, line power -/

/-- The grant that follows a needed move sends its MOVE (R94, R96, R107). -/
theorem test_dwellTimerExpiry :
    let t := after (exec (.dwellTimerExpiry 17) (one { online with motion := .dwell, dwell := .running 0, target := some 900, permit := true }))
    (t.slot 17).motion = .starting ∧ ((t.dline .a).flight.map fun f => f.trans) = some (.move 17 900 false) := by decide +kernel

theorem test_travelTimerExpiry :
    let t := after (exec (.travelTimerExpiry 17) (one { online with motion := .moving, travel := .running 0, permit := true }))
    (t.slot 17).motion = .fault ∧ (t.slot 17).fault = .travelTimeout ∧
      ((t.dline .a).flight.map fun f => f.trans) = some (.stop 17) := by decide +kernel

/-- An override with the MOVE sent and no move needed makes the move class 0 in either direction (R91). -/
theorem test_override_reclasses_a_started_move :
    let t := after (exec (.override .o 0x01 3) (one { online with motion := .starting, permit := true, target := some 900, cls := some 2, dir := some .opening }))
    (t.slot 17).cls = some 0 ∧ (t.slot 17).deferred = true ∧ (t.slot 17).motion = .starting := by decide +kernel

theorem test_pollTimerExpiry :
    let t := after (exec (.pollTimerExpiry 17) (one { online with motion := .moving, poll := .running 0 }))
    (t.slot 17).poll = .running 200 ∧ ((t.dline .a).flight.map fun f => f.trans) = some (.pollMoving 17) := by decide +kernel

theorem test_probeTimerExpiry :
    let t := after (exec (.probeTimerExpiry 17) (one { probe := .running 0, link := .offline }))
    (t.slot 17).probe = .running 10000 ∧ ((t.dline .a).flight.map fun f => f.trans) = some (.probe 17) := by decide +kernel

/-- A slot that is MOVING gets no POLL-idle (R128). -/
theorem test_idlePollTimerExpiry :
    let t := after (exec (.idlePollTimerExpiry 17) (one { online with motion := .moving, idlePoll := .running 0 }))
    (t.slot 17).idlePoll = .running 5000 ∧ (t.dline .a).flight = none := by decide +kernel

theorem test_faultClear :
    let t := after (exec (.faultClear .o 0x0010 0x00F0) (one { online with motion := .fault, fault := .stalled }))
    (t.slot 17).motion = .idle ∧ (t.slot 17).fault = .none ∧ (t.port .o).reply.payload = [1, 0] := by decide +kernel

theorem test_lineStandby :
    let t := after (exec (.lineStandby .b 2) run)
    (t.mline .c).power = .standby ∧ (t.mline .c).standbyDwell = .running 2000 := by decide +kernel
theorem test_lineWake :
    let t := after (exec (.lineWake .b 2) (run.modMline .c fun m => { m with power := .standby }))
    (t.mline .c).power = .waking ∧ (t.mline .c).wake = .running 500 := by decide +kernel
theorem test_standbyDwellExpiry :
    ((after (exec (.standbyDwellExpiry .c) (run.modMline .c fun m => { m with standbyDwell := .running 0 }))).mline .c) = {} := by
  decide +kernel
theorem test_wakeTimerExpiry :
    ((after (exec (.wakeTimerExpiry .c) (run.modMline .c fun m => { m with power := .waking, wake := .running 0 }))).mline .c) =
      {} := by decide +kernel

/-- The line-reset time of code 49 is 500 ms (R116); the reset ends with the line in RUN (R132). -/
theorem test_lineResetTime : run.lineResetTime .a = 500 := by decide +kernel
theorem test_lineResetTimerExpiry :
    let t := after (exec (.lineResetTimerExpiry .d) (run.modDline .d fun d =>
      { d with state := .lreset, reset := .running 0, owed := true }))
    (t.dline .d).state = .run ∧ ((t.dline .d).flight.map fun f => f.trans) = some .stopAll := by decide +kernel

/-- The transaction queue takes a STOP before an older MOVE (R118). -/
theorem test_nextTrans : nextTrans [.probe 1, .move 2 500 false, .stop 3, .stop 4] = some (.stop 3) := by decide

/-! ## Window Engine -/

/-- XS 4, XE 7, YS 2, YE 3 with MX visits 39, 38, 37, 36, 55, 54, 53, 52 (R138). -/
theorem test_scan_order :
    (List.range 8).map (Window.slotOf { xs := 4, xe := 7, ys := 2, ye := 3, mx := true }) =
      [39, 38, 37, 36, 55, 54, 53, 52] := by decide
theorem test_request_keys : (requestOf 0x03E8, requestOf 0x03E9, requestOf 0xFFFD, requestOf 0xFFFE, requestOf 0xFFFF) =
    (.set 1000, .set 1000, .set 1000, .clear, .leave) := by decide

theorem test_windowSet_range :
    ((after (exec (.windowSet .b 0 16 0 11 0) run)).port .b).reply = { status := .badParam } ∧
      (after (exec (.windowSet .b 0 15 0 11 0xF9) run)).eng.window = { mv := true } := by decide +kernel
theorem test_patternLoad :
    (after (exec (.patternLoad .b (List.replicate 16 5)) run)).eng.tile = Vector.replicate 16 5 := by decide +kernel

/-- N is 192 with the reset window: 12 items for a mask or an expand, 192 for a block (R145–R147). -/
theorem test_opExpand : (after (exec (.opExpand .b 1000 0 1) run)).eng.op =
    some { kind := .expand 1000 0 true, n := 192, needed := 12, feeding := true } := by decide +kernel
theorem test_opBlock : (after (exec (.opBlock .b) run)).eng.op =
    some { kind := .block, n := 192, needed := 192, feeding := true } := by decide +kernel
theorem test_opMask : (after (exec (.opMask .b 15 0x1000) run)).eng.op =
    some { kind := .mask 15 1000, n := 192, needed := 12, feeding := true } := by decide +kernel
theorem test_opFill : (after (exec (.opFill .b 0xFFFE) run)).eng.op = some { kind := .fill 0xFFFE, n := 192 } := by
  decide +kernel
theorem test_opFill_leave : ((after (exec (.opFill .b 0xFFFF) run)).port .b).reply = { status := .badParam } := by
  decide +kernel
theorem test_opPattern : (after (exec (.opPattern .b) run)).eng.remaining = 192 := by decide +kernel
theorem test_opCopy_range : ((after (exec (.opCopy .b 0 1) run)).port .b).reply = { status := .badParam } := by
  decide +kernel
theorem test_opRead : (after (exec (.opRead .b 3) run)).eng.op = some { kind := .read 3, n := 192 } := by decide +kernel

/-- An OP_MASK's table (R147): a present slot under code 0 is cleared, an absent one under code 15 is set. -/
theorem test_maskRequest :
    maskRequest 0 500 true true = .clear ∧ maskRequest 15 500 false false = .set 500 ∧ maskRequest 8 500 true true = .leave := by
  decide

/-- A part in RUN with an OP_EXPAND over one slot, waiting for its item. -/
def feeding : State :=
  run.modEng fun e =>
    { e with
      window := { xs := 1, xe := 1, ys := 1, ye := 1 }, remaining := 1, feed := .running 10000
      op := some { kind := .expand 700 0xFFFF true, n := 1, needed := 1, feeding := true } }

/-- The last item needed takes the operation out of FEEDING (R150). -/
theorem test_data :
    let t := after (exec (.data .b [0x80, 0x00]) feeding)
    t.eng.fifo = [0x8000] ∧ t.eng.due = .complete ∧ (t.port .b).reply.payload = [1, 1] := by decide +kernel

/-- A byte after the end of count is refused (R149). -/
theorem test_data_surplus :
    ((after (exec (.data .b [0x80, 0x00, 0x01]) feeding)).port .b).reply = { status := .badParam, payload := [1, 1] } := by
  decide +kernel

theorem test_itemTake :
    let t := after (exec .itemTake (feeding.modEng fun e => { e with fifo := [0x8000] }))
    t.eng.hand = some 0x8000 ∧ t.eng.fifo = [] := by decide +kernel

/-- The first bit of the item writes F into the one slot; the operation ends (R145, R140, R156). -/
theorem test_scanVisit :
    let s := feeding.modEng fun e =>
      { e with hand := some 0x8000, due := .complete, feed := .stopped, op := e.op.map fun o => { o with feeding := false, accepted := 1 } }
    let t := after (exec .scanVisit (cfg 17 vent s))
    (t.slot 17).bms = some 700 ∧ t.eng.outcome = .complete ∧ t.eng.written = 1 ∧ t.eng.op = none := by decide +kernel

theorem test_feedTimerExpiry :
    let t := after (exec .feedTimerExpiry feeding)
    t.eng.outcome = .truncatedTimeout ∧ t.eng.op = none ∧ (t.port .b).notice .opDone = true := by decide +kernel
theorem test_opAbort : (after (exec (.opAbort .b) feeding)).eng.outcome = .truncatedAbort := by decide +kernel

/-- A part in RUN with an OP_READ of positions over one slot. -/
def reading : State :=
  run.modEng fun e =>
    { e with
      window := { xs := 1, xe := 1, ys := 1, ye := 1 }, remaining := 1, op := some { kind := .read 1, n := 1 } }

/-- An unmapped slot gives 0xFFFF (R152). -/
theorem test_readItemProduce :
    let t := after (exec .readItemProduce reading)
    t.eng.fifo = [0xFFFF] ∧ t.eng.skipped = 1 ∧ t.eng.remaining = 0 := by decide +kernel
theorem test_drain :
    let t := after (exec (.drain .b) (reading.modEng fun e => { e with fifo := [300], op := some { kind := .read 1, n := 1, k := 1 } }))
    (t.port .b).reply.payload = [1, 0x01, 0x2C] ∧ t.eng.outcome = .complete := by decide +kernel

/-! ## Resets -/

/-- The strap value sets every port's address (R157, R173). -/
theorem test_hardwareReset :
    let t := after (exec (.hardwareReset 2) { run with resetPin := true })
    (t.portCfg .o).addr = 0x3C ∧ t.mode = .unconfigured ∧ t.resetPin = false := by decide +kernel
theorem test_resetPinAsserted :
    let t := after (exec .resetPinAsserted (run.modPort .f fun pt => { pt with ack := true, flags := 1 }))
    t.resetPin = true ∧ (t.port .f).ack = false ∧ t.attention .f = false := by decide +kernel
theorem test_warmRestart_unconfigured :
    let t := after (exec (.warmRestart .b) State.reset)
    (t.port .b).reply = { status := .notReady } ∧ t.mode = .unconfigured := by decide +kernel
/-- The controller's part of a warm restart on a line with nothing in flight (R133). -/
theorem test_warmLine :
    let t := run.warmLine .b
    (t.dline .b).queue = [] ∧ (t.dline .b).flight = some { trans := .stopAll } := by decide +kernel

/-- With nothing waiting the part visits the next slot of an operation. -/
theorem test_idle_engine : (after (step (run.modEng fun e => { e with op := some { kind := .fill 5, n := 192 } }))).pending =
    [.scanVisit] := by decide +kernel

/-! ## Witnesses: states and operands that meet the hypotheses of each statement -/

/-- A slot nothing has changed is as a hardware reset leaves it. -/
theorem run_slot (i : SlotId) : run.slot i = {} := by simp [run, State.slot, State.reset, State.hardwareReset]

/-- The queue law holds where every queue is empty. -/
theorem queueOk_of_empty {s : State} (h : ∀ l, (s.mline l).queue = []) : s.QueueOk := by
  intro l
  rw [h l]
  simp

/-- As `queueOk_of_empty`, for a state whose lines MOTION has not touched. -/
theorem queueOk_of_motion {s : State} (h : s.motion = run.motion) : s.QueueOk := by
  apply queueOk_of_empty
  intro l
  unfold State.mline
  rw [h]
  cases l <;> rfl

/-- The runtime part of every slot of `one`. -/
theorem one_slot (r : Slot) (j : SlotId) : (one r).slot j = if 17 = j then r else {} := by
  unfold one
  rw [State.modSlot_slot]
  split
  · rfl
  · exact run_slot j

/-- Slot 17 is the one mapped slot of `one`. -/
theorem one_vent {r : Slot} (i : SlotId) (h : ((one r).vent i).mapped = true) : i = 17 := by
  by_contra hne
  have : (17 : Nat) ≠ i.val := fun e => hne (Fin.ext e.symm)
  simp [one, cfg, State.vent, State.modSlot, run, State.reset, State.hardwareReset, Tables.reset, this] at h

/-- A hardware reset leaves every block as `FreshOk` asks. -/
theorem fresh_reset : State.reset.FreshOk := by
  intro _
  refine ⟨fun i => ?_, fun z => ?_, fun l => ?_, rfl, rfl, rfl⟩
  · simp [State.slot, State.reset, State.hardwareReset]
  · simp [State.zone, State.reset, State.hardwareReset]
  · cases l <;> exact ⟨rfl, rfl⟩

theorem witness_EmptyQueueStepGoesOn :
    (State.reset.pending = [] ∧ State.reset.resetPin = false ∧ State.reset.ownWork = none) ∧
      ((feeding.modEng fun e => { e with fifo := [1] }).pending = [] ∧
        (feeding.modEng fun e => { e with fifo := [1] }).ownWork = some .itemTake) ∧
      ({ run with resetPin := true } : State).pending = [] := by decide +kernel

/-- No work of the engine with a request being sent, and with neither but a reply being prepared. -/
theorem witness_EmptyQueueStepGoesOn_work :
    let s := fly { trans := .stopAll } run
    let t := run.modPort .o fun pt => { pt with prep := some { todo := [.weather], take := 0 } }
    (s.pending = [] ∧ s.resetPin = false ∧ s.eng.op = none ∧ (s.dline .a).flight.map (fun f => f.phase) = some .sending) ∧
      (t.pending = [] ∧ t.eng.op = none ∧ (t.port .o).prep ≠ none ∧
        ∀ l ∈ allLines, (t.dline l).flight.map (fun f => f.phase) ≠ some .sending) := by decide +kernel

theorem witness_AssertedResetPinStopsThePart :
    ({ run with resetPin := true } : State).resetPin = true ∧ (∀ strap, Instr.framingError ≠ .hardwareReset strap) ∧
      Instr.framingError ≠ .resetPinAsserted := by
  refine ⟨rfl, ?_, ?_⟩ <;> simp

theorem witness_FrameBoundsWithoutACommand :
    run.resetPin = false ∧ (run.port .f).frame = .idle ∧
      ((run.modPort .f fun pt => { pt with frame := .read }).port .f).frame = .read ∧
      (((run.modPort .f fun pt => { pt with frame := .write }).port .f).frame = .write ∧
        ((run.modPort .f fun pt => { pt with frame := .write }).port .f).code = none) ∧
      ((run.modPort .f fun pt => { pt with frame := .ignoring }).port .f).frame = .ignoring ∧
      ((run.modPort .f fun pt => { pt with frame := .ignoring }).port .f).code ≠ some 0x3B := by decide +kernel

/-- A port that awaits an address byte. -/
def awaiting : State := run.modPort .o fun pt => { pt with awaiting := true }

theorem witness_AddressByteOpensTheFrame :
    awaiting.resetPin = false ∧ (awaiting.port .o).frame = .idle ∧ (awaiting.port .o).awaiting = true := by decide +kernel

/-- A port in a write frame with a code and some parameters. -/
def writing (code : Option Byte) (n : Nat) : State :=
  run.modPort .b fun pt => { pt with frame := .write, code := code, params := List.replicate n 0 }

/-- 127 parameters leave room for one; 128 leave none. -/
theorem witness_WriteByteJoinsTheInputBuffer :
    (run.resetPin = false ∧ (run.port .b).frame = .idle) ∧
      (∀ s ∈ [writing none 0, writing (some 0x50) 127, writing (some 0x50) 128],
        s.resetPin = false ∧ (s.port .b).frame = .write) ∧ ((writing none 0).port .b).code = none ∧
      (((writing (some 0x50) 127).port .b).code = some 0x50 ∧ ((writing (some 0x50) 127).port .b).params.length < 128) ∧
      (((writing (some 0x50) 128).port .b).code = some 0x50 ∧ ((writing (some 0x50) 128).port .b).params.length = 128) := by
  decide +kernel

theorem witness_ReadByteSendsTheReply :
    ∀ frame ∈ [Frame.idle, .ignoring, .read], let s := run.modPort .b fun pt => { pt with frame := frame }
      s.resetPin = false ∧ (s.port .b).frame = frame := by decide +kernel

theorem witness_FrameEndTakesItsCommand :
    frameOf (.cfgDone .b) = some (.b, 0x52, []) ∧ (writing (some 0x52) 0).ready .b ∧
      ((writing (some 0x52) 0).port .b).frame = .write ∧ ((writing (some 0x52) 0).port .b).code = some 0x52 ∧
      ((writing (some 0x52) 0).port .b).params = [] :=
  ⟨rfl, ready_of (by decide +kernel), by decide +kernel⟩

theorem witness_HoldExpiryIsAPortError :
    ∀ cause : HoldCause, let s := run.modPort .b fun pt => { pt with frame := .holding cause }
      s.resetPin = false ∧ (s.port .b).frame = .holding cause := by
  intro cause; exact ⟨rfl, rfl⟩

theorem witness_ReplyReadyCompletesTheReply :
    let s := run.modPort .b fun pt => { pt with prep := some { todo := [.weather], take := 0 } }
    s.resetPin = false ∧ (s.port .b).prep = some { todo := [.weather], take := 0 } := ⟨rfl, rfl⟩

theorem witness_CommandChecksComeFirst :
    frameOf (.alarm .b 0) = some (.b, 0x10, [0]) ∧ State.reset.ready .b ∧ PortId.b ∉ portsOfCode 0x10 ∧
      frameOf (.drain .b) = some (.b, 0x3C, []) ∧ PortId.b ∈ portsOfCode 0x3C ∧ runOnlyCode 0x3C = true ∧
      State.reset.mode = .unconfigured :=
  ⟨rfl, ready_of (by decide +kernel), by decide, rfl, by decide, by decide, rfl⟩

/-- Frames with a code outside the table, one of another port, a RUN-only one while UNCONFIGURED, and parameters short by one, over
by one, and for CFG_WRITE short by one of the three before its record; an engine busy. -/
theorem witness_CommandChecksComeFirst_frames :
    (∀ s ∈ [writing (some 0x07) 0, writing (some 0x10) 1, writing (some 0x32) 4, writing (some 0x32) 6, writing (some 0x50) 2],
      (s.resetPin = false ∧ (s.port .b).prep = none) ∧ (s.port .b).frame = .write) ∧ (0x07 : Byte).toNat ∉ commandCodes ∧
      ((0x10 : Byte).toNat ∈ commandCodes ∧ PortId.b ∉ portsOfCode 0x10) ∧
      (runOnlyCode 0x3C = true ∧ ({ writing (some 0x3C) 0 with mode := .unconfigured } : State).mode = .unconfigured) ∧
      (PortId.b ∈ portsOfCode 0x32 ∧ runOnlyCode 0x32 = false ∧ paramCount 0x32 = some 5 ∧
        ((writing (some 0x32) 4).port .b).params.length = 4 ∧ ((writing (some 0x50) 2).port .b).params.length < 3) ∧
      ((writing (some 0x50) 2).mode = .run ∧ feeding.eng.op ≠ none) := by decide +kernel

/-- READ_STATUS, ACK_NOTICE, the queries, WINDOW_SET, PATTERN_LOAD and the configuration commands ask only for this. -/
theorem witness_ready : State.reset.ready .f ∧ State.reset.ready .b ∧ State.reset.ready .o ∧ run.ready .b ∧ run.mode = .run :=
  ⟨ready_of (by decide +kernel), ready_of (by decide +kernel), ready_of (by decide +kernel), ready_of (by decide +kernel), rfl⟩

/-- A gust in the middle of the ring. -/
theorem witness_QueryRecordsReadTheState :
    let s := run.modWx fun w => { w with ring := #v[0, 0, 0, 90, 0, 0, 0, 0] }
    (∀ j : Fin 8, s.wx.ring[j] ≤ 90) ∧ ∃ j : Fin 8, s.wx.ring[j] = 90 := by decide +kernel

theorem witness_SelectorsAndPolicies :
    (run.portCfg .b).policy = 0 ∧
      ({ run with tables := { run.tables with ports := run.tables.ports.set 1 { addr := 0x3A, policy := 3 } } } : State).portCfg
        .b = { addr := 0x3A, policy := 3 } ∧ (3 : Fin 4).val = (2 : Fin 3).val + 1 := by decide +kernel

theorem witness_AlarmCommandsOutsideRun :
    State.reset.ready .f ∧ 7 < (8 : Byte).toNat ∧ ((7 : ZoneId).val = (7 : Byte).toNat ∧ (7 : ZoneId) ∉ State.reset.alarms) ∧
      (7 : ZoneId) ∈ ({ State.reset with alarms := [7] } : State).alarms ∧
      ({ State.reset with alarms := [7] } : State).alarms ≠ [] ∧ State.reset.alarms = [] ∧ State.reset.mode = .unconfigured :=
  ⟨ready_of (by decide +kernel), by decide, by decide +kernel, by decide, by decide, rfl, rfl⟩

theorem witness_AlarmListChangeInRun :
    run.ready .f ∧ run.mode = .run ∧ (7 : ZoneId) ∉ run.alarms ∧
      Instr.alarm .f 7 = .alarm .f (BitVec.ofNat 8 (7 : ZoneId).val) ∧ (run.alarms = [] ∧ [7] ≠ ([] : List ZoneId)) ∧
      (7 : ZoneId) ∈ ({ run with alarms := [7, 0] } : State).alarms ∧ [7, 0].erase (7 : ZoneId) = [0] ∧
      ({ run with alarms := [7, 0] } : State).alarms ≠ [] :=
  ⟨ready_of (by decide +kernel), rfl, by decide, by decide, by decide, by decide, by decide, by decide⟩

/-- A state in which a zone in each action is given another by a plan row. -/
theorem witness_ZoneActionFollowsTheAlarmList :
    let s : State := { run with tables := { run.tables with
      plan := run.tables.plan.set 3 ((Vector.replicate 8 Action.none).set 0 .exhaust) } }
    (∀ a ∈ ([1, 2] : List ZoneId), s.planAt a 0 = .none) ∧ s.planAt 3 0 ≠ .none := by decide +kernel

theorem witness_DeadlineExpiryDecidesTheStatus :
    let s := run.modZone 0 fun zn => { zn with action := .exhaust, status := .opening, timer := .running 0 }
    s.resetPin = false ∧ (s.zone 0).timer = .running 0 := ⟨rfl, rfl⟩

theorem witness_LayersComposeInOrder :
    ({ fire := .full } : Slot).fire = .full ∧ ({ fire := .shut } : Slot).fire = .shut ∧
      (({ bms := some 1000 } : Slot).fire = .absent ∧ ({ bms := some 1000 } : Slot).bms = some 1000) ∧
      ({} : Slot).bms = none := by decide

/-- A vent composed from its rest position under the ceiling 0, with a CLAIM waiting. -/
theorem witness_LayersComposeInOrder_step :
    let s := one { online with target := some 0 }
    (s.ComposedOk ∧ s.mode = .run) ∧ ∃ t, step { s with pending := [.claim .b 0x12 0xFFFF 500] } = .next t := by
  refine ⟨⟨?_, rfl⟩, _, rfl⟩
  intro _ i hi
  rcases one_vent i hi with rfl
  decide +kernel

theorem witness_ClaimAndReleaseWriteTheSelection :
    run.ready .b ∧ run.mode = .run ∧ (Instr.claim .b 1 1 0xFFFF = .claim .b 1 1 0xFFFF ∧ min (0xFFFF : Word16).toNat 1000 = 1000) :=
  ⟨ready_of (by decide +kernel), rfl, by decide⟩

/-- Mode 4 is out of range, mode 3 is HOLD; both modes of the part are met, and a changed zone with a member in FAULT. -/
theorem witness_OverrideSetsTheZones :
    State.reset.ready .o ∧ 3 < (4 : Byte).toNat ∧ OverrideMode.hold.code = (3 : Byte).toNat ∧
      State.reset.mode = .unconfigured ∧ (one { online with motion := .fault }).mode = .run ∧
      (one { online with motion := .fault }).ready .o ∧ ((one { online with motion := .fault }).vent 17).mapped = true ∧
      ((one { online with motion := .fault }).zone 0).override ≠ .hold ∧ (0x01 : Byte).getLsbD (0 : ZoneId).val = true :=
  ⟨ready_of (by decide +kernel), by decide, by decide, rfl, rfl, ready_of (by decide +kernel), by decide +kernel,
    by decide +kernel, by decide⟩

/-- The deadband of 10 is not a move; 11 is. -/
theorem witness_EvaluationAndPermitClass :
    (one { online with target := some 311 }).evaluate 17 = some .opening ∧
      (one { online with target := some 310 }).evaluate 17 = none ∧
      (one { online with target := some 289 }).evaluate 17 = some .closing := by decide +kernel

/-- Slot 17 holding a permit of line A, a QUEUED slot 18 at the head of its queue, and a MOVE of slot 17 pending or sent. -/
def contested (r q : Slot) (pending : Bool) : State :=
  (((cfg 18 { vent with bus := 6 } (one { r with permit := true })).modSlot 18 fun _ => { q with motion := .queued }).modMline .a
    fun m => { m with holders := [17], queue := [18] }).modDline .a fun d =>
      { d with queue := if pending then [.move 17 900 false] else [], flight := some { trans := .stopAll } }

theorem contested_queueOk (r q : Slot) (pending : Bool) : (contested r q pending).QueueOk := by
  intro l
  cases l <;> cases pending <;> simp [contested, State.mline, State.modMline, State.modDline, State.modSlot, LineId.idx, one, cfg,
    run, State.reset, State.hardwareReset, State.slot, State.vent, vent]

/-- A settled line; a queue entry; a grant under a limit of 2 with one permit held; and with the limit 1 a class-0 entry waiting
for a class-2 holder that is MOVING, or STARTING with its MOVE not sent. -/
theorem witness_GrantsNeverPassTheLimit :
    let tight := fun s : State => { s with tables := { s.tables with lines := s.tables.lines.set 0 { kNorm := 1 } } }
    let moving := tight (contested { online with motion := .moving, cls := some 2 } { online with cls := some 0 } false)
    let starting := tight (contested { online with motion := .starting, cls := some 2 } { online with cls := some 0 } true)
    let free := contested { online with motion := .moving, cls := some 2 } { online with cls := some 1 } false
    (State.reset.FreshOk ∧ run.QueueOk ∧ free.QueueOk ∧ moving.QueueOk ∧ starting.QueueOk) ∧
      ((run.mline .a).entryCount + 1 < 4294967295 ∧ (17 : SlotId) ∉ (run.mline .a).queue) ∧
      ((free.mline .a).queue = [18] ∧ (free.mline .a).holders.length < free.limit .a ∧ (free.mline .a).power = .active ∧
        (free.dline .a).state = .run ∧ free.mode = .run ∧ (free.slot 18).target = some 300) ∧
      (moving.preemptable .a = some 17 ∧ moving.limit .a ≤ (moving.mline .a).holders.length ∧
        (moving.mline .a).preempting < moving.urgent .a ∧ (moving.slot 17).motion = .moving ∧ (moving.vent 17).line = .a ∧
        (moving.preempt .a 17).urgent .a ≤ ((moving.preempt .a 17).mline .a).preempting) ∧
      ((starting.mline .a).holders.Nodup ∧ 17 ∈ (starting.mline .a).holders ∧ (starting.slot 17).permit = true ∧
        (starting.slot 17).motion = .starting ∧ starting.moveUnsent 17 = true ∧ (starting.slot 17).source = .rest ∧
        (starting.mline .a).queue = [18] ∧ (starting.slot 18).cls = some 0 ∧
        (starting.mline .a).holders.length = starting.limit .a ∧ (starting.mline .a).power = .active) := by
  refine ⟨⟨fresh_reset, queueOk_of_motion rfl, contested_queueOk _ _ _, ?_, ?_⟩, ?_⟩
  · exact contested_queueOk { online with motion := .moving, cls := some 2 } { online with cls := some 0 } false
  · exact contested_queueOk { online with motion := .starting, cls := some 2 } { online with cls := some 0 } true
  · decide +kernel

theorem witness_FaultClearClearsTheSelection : run.ready .o ∧ run.ready .b ∧ run.mode = .run :=
  ⟨ready_of (by decide +kernel), ready_of (by decide +kernel), rfl⟩

/-- One vent in RUN, in a zone in EXHAUST whose sums, status and latch are those of its member. -/
def exhausting (r : Slot) : State :=
  (one r).modZone 0 fun zn =>
    { zn with
      action := .exhaust, timer := .running 5000, avail := (one r).availOf 0, conf := (one r).confOf 0
      status := exhaustStatus ((one r).confOf 0) ((one r).zoneCfg 0).areq (.running 5000)
      latch := decide ((one r).availOf 0 < ((one r).zoneCfg 0).areq) }

theorem exhausting_slot (r : Slot) (j : SlotId) : (exhausting r).slot j = if 17 = j then r else {} := one_slot r j

/-- Nothing is pending or in flight. -/
theorem exhausting_onLine (r : Slot) (l : LineId) (x : Trans) : ¬ (exhausting r).onLine l x := by
  have h : ((exhausting r).dline l).queue = [] ∧ ((exhausting r).dline l).flight = none := by cases l <;> exact ⟨rfl, rfl⟩
  simp [State.onLine, h.1, h.2]

theorem exhausting_mapped (r : Slot) : (exhausting r).MappedOk := by
  refine ⟨fun i hi => ?_, fun l x i h => absurd h (exhausting_onLine r l x)⟩
  rw [exhausting_slot]
  split
  · next e => subst e; exact absurd ((rfl : true = ((exhausting r).vent 17).mapped).trans hi) (by decide)
  · rfl

/-- A slot in FAULT, ONLINE. -/
def faulted : Slot := { online with motion := .fault, fault := .stalled }

theorem faulted_queueOk : (exhausting faulted).QueueOk := by intro l; cases l <;> decide +kernel

theorem faulted_permitOk : (exhausting faulted).PermitOk := by
  refine ⟨fun i => ?_, fun l => by cases l <;> decide +kernel⟩
  rw [exhausting_slot]
  split
  · next e => subst e; decide +kernel
  · simp [Motion.holds]

theorem faulted_areasOk : (exhausting faulted).AreasOk := by intro _; decide +kernel

/-- A slot in FAULT that is ONLINE, or not, is selected and allowed; the first needs a move or none. -/
theorem witness_FaultClearClearsTheSelection_slots :
    (exhausting faulted).ready .b ∧ (exhausting faulted).mode = .run ∧
      ((exhausting faulted).QueueOk ∧ (exhausting faulted).PermitOk ∧ (exhausting faulted).AreasOk) ∧
      (17 ∈ (exhausting faulted).select 0 0 ∧ (exhausting faulted).clearAllowed .b 17 = true ∧
        ((exhausting faulted).slot 17).motion = .fault ∧ ((exhausting faulted).slot 17).link = .online) ∧
      (after (exec (.faultClear .b 0 0) (exhausting faulted))).evaluate 17 = none ∧
      (after (exec (.faultClear .b 0 0) (exhausting { faulted with target := some 900 }))).evaluate 17 = some .opening ∧
      ((exhausting { faulted with link := .offline }).slot 17).link ≠ .online :=
  ⟨ready_of (by decide +kernel), by decide +kernel, ⟨faulted_queueOk, faulted_permitOk, faulted_areasOk⟩, by decide +kernel,
    by decide +kernel, by decide +kernel, by decide +kernel⟩

/-- A line in each power state, with and without a permit held, a standby dwell and a wake time. -/
theorem witness_LinePowerCommands :
    let held := run.modMline .d fun m => { m with holders := [0] }
    let waking := run.modMline .d fun m => { m with power := .waking }
    let standby := run.modMline .d fun m => { m with power := .standby }
    let dwelling := run.modMline .d fun m => { m with power := .standby, standbyDwell := .running 1 }
    let instant : State := { standby with tables := { standby.tables with lines := standby.tables.lines.set 3 { wakeTime := 0 } } }
    (∀ s ∈ [run, held, waking, standby, dwelling, instant], (s.resetPin = false ∧ (s.port .b).prep = none) ∧ s.mode = .run) ∧
      3 < (4 : Byte).toNat ∧ LineId.code .d = (3 : Byte).toNat ∧
      ((run.mline .d).power = .active ∧ (run.mline .d).holders = [] ∧ (run.mline .d).queue = []) ∧
      ((held.mline .d).power = .active ∧ (held.mline .d).holders ≠ []) ∧ (waking.mline .d).power = .waking ∧
      ((standby.mline .d).power = .standby ∧ (standby.mline .d).standbyDwell = .stopped ∧ (standby.mline .d).holders = [] ∧
        0 < (standby.lineCfg .d).wakeTime) ∧
      ((dwelling.mline .d).power = .standby ∧ (dwelling.mline .d).standbyDwell ≠ .stopped) ∧
      ((instant.mline .d).power = .standby ∧ (instant.mline .d).standbyDwell = .stopped ∧ (instant.lineCfg .d).wakeTime = 0) := by
  decide +kernel

theorem witness_LinePowerTimers :
    let s := run.modMline .d fun m => { m with standbyDwell := .running 0, wake := .running 0 }
    s.resetPin = false ∧ (s.mline .d).standbyDwell = .running 0 ∧ (s.mline .d).wake = .running 0 ∧ (s.mline .d).queue = [] := by
  decide +kernel

theorem witness_SlotTimersPlaceTheirTransactions :
    let s := one { online with poll := .running 0, probe := .running 0, idlePoll := .running 0 }
    let t := one { online with motion := .moving, idlePoll := .running 0 }
    s.resetPin = false ∧ (s.slot 17).poll = .running 0 ∧ (s.slot 17).probe = .running 0 ∧ (s.slot 17).idlePoll = .running 0 ∧
      (s.slot 17).motion ≠ .moving ∧ (t.slot 17).idlePoll = .running 0 ∧ (t.slot 17).motion = .moving := by decide +kernel

theorem witness_TravelTimeoutIsAFault :
    let s := one { online with motion := .moving, travel := .running 0, permit := true }
    (s.resetPin = false ∧ s.mode = .run ∧ (s.slot 17).motion = .moving ∧ (s.slot 17).travel = .running 0 ∧
      (s.dline (s.vent 17).line).state = .run) ∧ s.QueueOk :=
  ⟨by decide +kernel, queueOk_of_motion rfl⟩

/-- A slot in DWELL that needs a move, and one in place. -/
theorem witness_DwellEndsInAMoveOrARelease :
    let s := one { online with motion := .dwell, dwell := .running 0, target := some 311 }
    let t := one { online with motion := .dwell, dwell := .running 0, target := some 310 }
    (s.resetPin = false ∧ s.mode = .run ∧ (s.slot 17).motion = .dwell ∧ (s.slot 17).dwell = .running 0 ∧
      (s.mline (s.vent 17).line).queue = [] ∧ (s.dline (s.vent 17).line).state = .run ∧ s.evaluate 17 = some .opening ∧
      (s.slot 17).target = some 311) ∧ (t.evaluate 17 = none ∧ (t.slot 17).dwell = .running 0) ∧ s.QueueOk ∧ t.QueueOk :=
  ⟨by decide +kernel, by decide +kernel, queueOk_of_motion rfl, queueOk_of_motion rfl⟩

/-- A target change with nothing to do, in IDLE and QUEUED where nothing can be granted, in STARTING before and after the MOVE is
sent, and in MOVING in the same direction, with no move needed and in the opposite direction. -/
theorem witness_DwellEndsInAMoveOrARelease_target :
    let r := fun m target => { online with motion := m, target := some target, dir := some .opening, cls := some 2 }
    let s := fun m target pending => contested (r m target) { online with cls := some 1 } pending
    let idle := (one (r .idle 900)).modMline .a fun m => { m with holders := [1, 2] }
    let queued := fun cls target => (one { r .queued target with cls := some cls }).modMline .a fun m =>
      { m with holders := [1, 2], queue := [17] }
    ((s .moving 900 false).mode = .run ∧ ((s .moving 900 false).vent 17).line = .a ∧ ((s .moving 900 false).dline .a).state = .run ∧
      ((s .moving 900 false).mline .a).queue = [18] ∧ ((s .moving 900 false).slot 18).cls ≠ some 0) ∧
      (idle.limit .a ≤ (idle.mline .a).holders.length ∧ (∀ j ∈ (idle.mline .a).holders, (idle.slot j).cls ≠ some 2) ∧
        (idle.mline .a).power ≠ .standby ∧ (idle.slot 17).motion = .idle ∧ idle.evaluate 17 = some .opening) ∧
      ((queued 2 300).evaluate 17 = none ∧ (queued 2 900).evaluate 17 = some .opening ∧
        ((queued 2 900).slot 17).cls = some (permitClass .rest .opening) ∧
        ((queued 1 900).slot 17).cls ≠ some (permitClass .rest .opening)) ∧
      ((s .starting 900 true).moveUnsent 17 = true ∧ (s .starting 900 true).evaluate 17 = some .opening ∧
        (s .starting 300 true).evaluate 17 = none ∧ ((s .starting 300 true).slot 17).permit = true ∧
        (s .starting 900 false).moveUnsent 17 = false) ∧
      ((s .moving 900 false).evaluate 17 = some .opening ∧ (s .moving 300 false).evaluate 17 = none ∧
        (s .moving 0 false).evaluate 17 = some .closing) ∧
      (one online).mode = .run ∧ ((one online).vent 17).mapped = true ∧
      ((one online).slot 17).target ≠ ((one online).composedOf 17).2 := by decide +kernel

/-- A queue with and without the transaction placed; a line idle, busy, in LRESET, and a part UNCONFIGURED. -/
theorem witness_TransactionQueueOrder :
    nextTrans [.probe 1] = some (.probe 1) ∧
      (∀ u ∈ [Trans.stop 2, Trans.move 1 0 true], u.kind = (Trans.stop 1).kind → u.slot? ≠ (Trans.stop 1).slot?) ∧
      (∃ u ∈ [Trans.move 1 0 true], u.kind = (Trans.move 1 500 false).kind ∧ u.slot? = (Trans.move 1 500 false).slot?) ∧
      State.reset.mode = .unconfigured ∧ ((run.modDline .a fun d => { d with state := .lreset }).dline .a).state = .lreset ∧
      (run.mode = .run ∧ (run.dline .a).state = .run ∧ (run.dline .a).flight = none ∧ (run.dline .a).queue = []) ∧
      ((fly { trans := .stopAll } run).mode = .run ∧ ((fly { trans := .stopAll } run).dline .a).state = .run ∧
        ((fly { trans := .stopAll } run).dline .a).flight ≠ none) := by decide +kernel

/-- A flight in each phase: a STOP_ALL and a STOP being sent, attempts 2 and 3 of three, a PROBE's last attempt, a withdrawn and
an abandoned one. -/
theorem witness_RequestsAndTheirAttempts :
    let stop := fun n => ({ trans := .stop 17, attempt := n, phase := .waiting 0 } : Flight)
    let probe : Flight := { trans := .probe 17, attempt := 3, phase := .waiting 0 }
    (∀ f ∈ [{ trans := .stopAll }, { trans := .stop 17 }, stop 2, stop 3, probe, { stop 2 with withdrawn := true },
        { stop 2 with abandoned := true }],
      (fly f run).resetPin = false ∧ ((fly f run).dline .a).flight = some f) ∧
      Trans.stop 17 ≠ .stopAll ∧ (stop 2).attempt < (run.lineCfg .a).attempts ∧ (run.lineCfg .a).attempts ≤ (stop 3).attempt ∧
      (run.lineCfg .a).attempts ≤ probe.attempt ∧ probe.trans.kind = 6 := by
  decide +kernel

/-- Three bytes received are short of a reply by two; four by one, which `DriveLineReplyIsTested` covers. -/
theorem witness_ReplyBytesAreAssembled :
    run.resetPin = false ∧ (run.dline .a).flight = none ∧
      ((fly { trans := .probe 17 } run).dline .a).flight = some { trans := .probe 17, phase := .sending } ∧
      ((fly { trans := .probe 17, phase := .waiting 3 } run).dline .a).flight =
        some { trans := .probe 17, phase := .waiting 3 } ∧
      ((fly { trans := .probe 17, phase := .receiving 3 [1, 2, 3] 2 } run).dline .a).flight =
        some { trans := .probe 17, phase := .receiving 3 [1, 2, 3] 2 } ∧ ([1, 2, 3] : List Byte).length < 4 ∧
      ((fly { trans := .probe 17, phase := .receiving 3 [0x85, 2, 3, 0xE8] 1 } run).dline .a).flight =
        some { trans := .probe 17, phase := .receiving 3 [0x85, 2, 3, 0xE8] 1 } := by decide +kernel

/-- A good reply and one with a wrong check for bus address 5; the transaction kept and abandoned. -/
theorem witness_DriveLineReplyIsTested :
    let s := fly { trans := .pollIdle 17, phase := .waiting 4 } (one online)
    let t := fly { trans := .pollIdle 17, phase := .waiting 4, abandoned := true } (one online)
    s.resetPin = false ∧ (s.dline .a).flight = some { trans := .pollIdle 17, phase := .waiting 4 } ∧
      (Trans.pollIdle 17).slot? = some 17 ∧ (0x85 : Byte) + 0x02 + 0x03 + 0xE8 + 0x8E = 0 ∧
      (0x85 : Byte) + 0x02 + 0x03 + 0xE8 + 0x8F ≠ 0 ∧ (0x85 : Byte) = 0x80 + BitVec.ofNat 8 (s.vent 17).bus ∧
      ((t.dline .a).flight.map fun f => f.abandoned) = some true := by decide +kernel

/-- Slot 17 with the profile entries 3 and 7 valid. -/
def profiled (r : Slot) : State :=
  { one r with tables := { (one r).tables with
      profiles := (one r).tables.profiles.set 17 (((Vector.replicate 8 {}).set 3 { valid := true }).set 7 { valid := true }) } }

/-- OFFLINE with and without a valid entry, PROFILING at the entries 3 and 7, ONLINE, and a HOLD zone with an unknown capture. -/
theorem witness_DriveLineReplyIsTested_link :
    let f : Flight := { trans := .profile 17 3, phase := .waiting 4 }
    let s := fun r => fly f (profiled r)
    let hold := (one {}).modZone 0 fun zn => { zn with override := .hold }
    ((s { link := .offline }).mode = .run ∧ ((s { link := .offline }).vent 17).line = .a ∧ ((s {}).vent 17).mapped = true ∧
      ((s {}).dline .a).state = .run ∧ ((s {}).dline .a).queue = [] ∧ ((s {}).mline .a).queue = [] ∧
      ((s { link := .offline }).slot 17).link = .offline ∧ ((s {}).slot 17).motion = .detached ∧
      ((s {}).zone 0).action ≠ .exhaust ∧ f.trans.kind = 3 ∧ (Trans.probe 17).kind ≠ 2) ∧
      ((s {}).validEntry 17 3 = true ∧ (∀ d : Fin 8, d < 3 → (s {}).validEntry 17 d = false) ∧ (s {}).validEntry 17 7 = true ∧
        (∀ d : Fin 8, 4 ≤ d.val → d < 7 → (s {}).validEntry 17 d = false)) ∧
      (∀ e : Fin 8, (one { link := .offline }).validEntry 17 e = false) ∧
      (hold.modeOf 17 = .hold ∧ (hold.slot 17).hold = none ∧ hold.mode = .run) ∧ (0x40 : Byte).getLsbD 6 = true := by
  decide +kernel

/-- The queue law of those states. -/
theorem witness_DriveLineReplyIsTested_queueOk (f : Flight) (r : Slot) : (fly f (profiled r)).QueueOk := queueOk_of_motion rfl

/-- Position 300 = 0x012C from bus address 5: with no flag the check is 0x4E, moving 0x4D, at_open 0x4C, obstructed 0x46,
refused 0xCE. -/
theorem witness_AcceptedReplyDrivesMotion :
    let s := fly { trans := .move 17 900 false, phase := .waiting 4 } (one { online with motion := .starting, target := some 900 })
    let p := fun target => fly { trans := .pollMoving 17, phase := .waiting 4 } (one { online with motion := .moving, target := some target })
    (s.resetPin = false ∧ (s.dline .a).flight = some { trans := .move 17 900 false, phase := .waiting 4 } ∧
      (s.slot 17).link = .online ∧ s.modeOf 17 ≠ .hold ∧ (s.slot 17).motion = .starting ∧ (s.slot 17).deferred = false ∧
      (Trans.move 17 900 false).kind = 2 ∧ (0x80 : Byte) + BitVec.ofNat 8 (s.vent 17).bus = 0x85) ∧
      ((0x85 : Byte) + 0x00 + 0x01 + 0x2C + 0x4E = 0 ∧ (0x85 : Byte) + 0x01 + 0x01 + 0x2C + 0x4D = 0 ∧
        (0x85 : Byte) + 0x02 + 0x01 + 0x2C + 0x4C = 0 ∧ (0x85 : Byte) + 0x08 + 0x01 + 0x2C + 0x46 = 0 ∧
        (0x85 : Byte) + 0x80 + 0x01 + 0x2C + 0xCE = 0) ∧
      (((p 310).slot 17).motion = .moving ∧ ((310 : Int) - (300 : Nat)).natAbs ≤ ((p 310).vent 17).deadband ∧
        ((p 311).slot 17).target = some 311 ∧ ¬ ((311 : Int) - (300 : Nat)).natAbs ≤ ((p 311).vent 17).deadband ∧
        ((p 1000).slot 17).target = some 1000 ∧ ((p 311).slot 17).stoppedShort = 0) := by
  decide +kernel

/-- IDLE and QUEUED with and without a need, a deferred change in the same and in the opposite direction, a reply of another kind,
STOPPING with each continuation and both reverse dwells, and a HOLD zone whose capture is known. -/
theorem witness_AcceptedReplyDrivesMotion_states :
    let noted := fun target => { online with target := some target, position := some 300, dir := some .opening }
    let s := fun t r => fly { trans := t, phase := .waiting 4 } (one r)
    let instant : State := { one online with tables := { (one online).tables with
      lines := (one online).tables.lines.set 0 { revDwell := 0 } } }
    (needsMove vent (noted 310) = none ∧ needsMove vent (noted 311) = some .opening ∧ needsMove vent (noted 289) = some .closing) ∧
      (∀ r ∈ [{ online with motion := .idle }, { online with motion := .starting, deferred := true },
          { online with motion := .stopping .release }, { online with motion := .stopping .reversal },
          { online with motion := .stopping .preemption }, { online with motion := .dwell }],
        (s (.stop 17) r).resetPin = false ∧ ((s (.stop 17) r).slot 17).link = .online ∧ (s (.stop 17) r).mode = .run ∧
          ((s (.stop 17) r).dline .a).state = .run ∧ ((s (.stop 17) r).vent 17).line = .a ∧
          ((s (.stop 17) r).mline .a).queue = [] ∧ ((s (.stop 17) r).mline .a).power = .active ∧
          ((s (.stop 17) r).mline .a).holders.length < (s (.stop 17) r).limit .a) ∧
      ((Trans.stop 17).kind = 1 ∧ (Trans.move 17 0 true).kind = 2) ∧
      (0 < ((one online).lineCfg .a).revDwell * 100 ∧ (instant.lineCfg .a).revDwell * 100 = 0) ∧
      (((one { online with hold := some 300 }).modZone 0 fun zn => { zn with override := .hold }).slot 17).hold ≠ none := by
  decide +kernel

/-- The queue law holds in every state of the two statements before and after, whatever flies and however many failures. -/
theorem witness_queueOk (f : Flight) (r : Slot) (n : Nat) :
    (fly f (one r)).QueueOk ∧ ((fly f (one r)).modDline .a fun d => { d with failures := n }).QueueOk :=
  ⟨queueOk_of_motion rfl, queueOk_of_motion rfl⟩

/-- With two failures counted the third leaves the line in RUN; with three the fourth resets it. -/
theorem witness_ExhaustionTakesTheSlotOffline :
    let s := fly { trans := .pollIdle 17, attempt := 3, phase := .waiting 0 } (one online)
    let n := fun k => s.modDline .a fun d => { d with failures := k }
    (s.resetPin = false ∧ (s.vent 17).mapped = true ∧ (s.vent 17).line = .a ∧ (s.slot 17).link ≠ .offline ∧
      (s.dline .a).flight = some { trans := .pollIdle 17, attempt := 3, phase := .waiting 0 } ∧ (Trans.pollIdle 17).kind ≠ 6 ∧
      (s.lineCfg .a).attempts ≤ 3) ∧
      (((n 2).dline .a).failures + 1 < (s.lineCfg .a).failLimit ∧
        ¬ ((n 3).dline .a).failures + 1 < (s.lineCfg .a).failLimit) ∧
      ((one { link := .offline }).slot 17).link = .offline ∧ ((one { link := .offline }).slot 17).motion = .detached := by
  decide +kernel

/-- An exhausted POLL of a slot already OFFLINE counts toward the fail limit as any other does. -/
theorem test_exhaustion_of_an_offline_slot_counts :
    let s := fly { trans := .pollIdle 17, attempt := 3, phase := .waiting 0 } (one { link := .offline })
    let n := fun k => after (exec (.replyTimerExpiry .a) (s.modDline .a fun d => { d with failures := k }))
    ((n 2).dline .a).failures = 3 ∧ ((n 2).dline .a).state = .run ∧ ((n 3).dline .a).state = .lreset := by decide +kernel

theorem witness_LineResetEndsWithProbes :
    let s := fun owed => (one {}).modDline .a fun d => { d with state := .lreset, reset := .running 0, owed := owed }
    ((s true).resetPin = false ∧ (s true).mode = .run ∧ ((s true).dline .a).reset = .running 0 ∧ ((s true).dline .a).queue = [] ∧
      ((s true).dline .a).flight = none ∧ ((s true).dline .a).owed = true) ∧ ((s false).dline .a).owed = false ∧
      (((s false).vent 17).mapped = true ∧ ((s false).vent 17).line = .a) := by decide +kernel

/-- A receiver with no byte and with five and six of a record. -/
theorem witness_WeatherBytesAreAssembled :
    let s := run.modWx fun w => { w with rx := [0xA5, 0, 0, 0, 0], gap := .running 0 }
    run.resetPin = false ∧ run.wx.rx = [] ∧ (0xA4 : Byte) ≠ 0xA5 ∧ s.wx.rx ≠ [] ∧ s.wx.rx.length < 6 ∧
      s.wx.gap = .running 0 := by decide +kernel

/-- The record of R70, the same with a wrong check, and one with the station fault flag; in both modes. -/
theorem witness_CompleteRecordIsTested :
    let s := State.reset.modWx fun w => { w with rx := [0xA5, 0x03, 0x20, 0x00, 0x40, 0x00] }
    s.resetPin = false ∧ s.wx.rx = [0xA5, 0x03, 0x20, 0x00, 0x40, 0x00] ∧ s.mode = .unconfigured ∧
      (0xA5 : Byte) + 0x03 + 0x20 + 0x00 + 0x40 + 0x00 + 0xF8 = 0 ∧ (0xA5 : Byte) + 0x03 + 0x20 + 0x00 + 0x40 + 0x00 + 0xF9 ≠ 0 ∧
      (0x00 : Byte).getLsbD 1 = false ∧ (0x02 : Byte).getLsbD 1 = true := by decide +kernel

theorem witness_ValidRecordInRun :
    let s := run.modWx fun w => { w with rx := [0xA5, 0x03, 0x20, 0x00, 0x40, 0x00] }
    s.resetPin = false ∧ s.mode = .run ∧ s.wx.rx = [0xA5, 0x03, 0x20, 0x00, 0x40, 0x00] ∧ s.wx.live = false ∧
      (0xA5 : Byte) + 0x03 + 0x20 + 0x00 + 0x40 + 0x00 + 0xF8 = 0 ∧ (0x00 : Byte).getLsbD 1 = false := by decide +kernel

theorem witness_StaleWeatherCalmsEverySlot :
    (run.modWx fun w => { w with live := true, stale := .running 0 }).resetPin = false ∧
      (run.modWx fun w => { w with live := true, stale := .running 0 }).wx.stale = .running 0 := ⟨rfl, rfl⟩

/-- A facing 599 and 600 tenths from the wind, 1200 and 1201 tenths: the edges of the three classes (R84). -/
theorem witness_SmoothingAndClasses :
    let w : Weather := { live := true, gate := true }
    (3599 < 3600 ∧ 0 < 3600) ∧ (w.live = true ∧ w.gate = true) ∧ ({} : Weather).live = false ∧
      (classify {} w (.angle 599), classify {} w (.angle 600), classify {} w (.angle 1200), classify {} w (.angle 1201)) =
        (.windward, .cross, .cross, .leeward) := by decide +kernel

/-- Column 15 and row 11 are the last; 16 and 12 are out of range; 16 values make a tile. -/
theorem witness_WindowAndPatternAreStored :
    run.ready .b ∧ run.eng.op = none ∧ feeding.ready .b ∧ feeding.eng.op ≠ none ∧
      (15 < (16 : Byte).toNat ∧ 11 < (12 : Byte).toNat ∧ (15 : Byte).toNat ≤ 15 ∧ (11 : Byte).toNat ≤ 11) ∧
      (Vector.replicate 16 (5 : Word16)).toList = List.replicate 16 5 ∧ (List.replicate 15 (5 : Word16)).length ≠ 16 :=
  ⟨ready_of (by decide +kernel), by decide +kernel, ready_of (by decide +kernel), by decide +kernel, by decide, by decide,
    by decide⟩

/-- Each form at the edge of its range, with a window of one slot. -/
theorem witness_OperationsAreTaken :
    run.ready .b ∧ run.mode = .run ∧ run.eng.op = none ∧ feeding.eng.op ≠ none ∧ (0xFFFE : Word16) ≠ 0xFFFF ∧
      (12 < (12 : Byte).toNat + 1 ∧ (11 : Byte).toNat + 1 ≤ 12 ∧ 16 < (16 : Byte).toNat + 1 ∧ (15 : Byte).toNat + 1 ≤ 16) ∧
      (1 < (2 : Byte).toNat ∧ (1 : Byte).toNat ≤ 1) ∧ (15 < (16 : Byte).toNat ∧ (15 : Byte).toNat = (15 : Fin 16).val) ∧
      (0xFFFE ≤ (0xFFFE : Word16).toNat ∧ (0xFFFD : Word16).toNat < 0xFFFE) ∧
      (3 < (4 : Byte).toNat ∧ (3 : Byte).toNat = (3 : Fin 4).val) :=
  ⟨ready_of (by decide +kernel), rfl, by decide +kernel, by decide +kernel, by decide, by decide, by decide, by decide, by decide,
    by decide⟩

theorem witness_ScanOrderAndRequests :
    (11 < 12 ∧ 15 < 16) ∧ ((1000 : Word16).toNat ≤ 1000 ∧ 1000 < (1001 : Word16).toNat ∧ (0xFFFD : Word16).toNat < 0xFFFE) ∧
      (slotAt 11 15).val / 16 % 4 = 3 ∧ (slotAt 11 15).val % 16 % 4 = 3 ∧
      ([Request.set 5, .clear] : List Request)[1]? = some .clear := by decide

/-- A FILL in the middle of its scan and at its last step, and an input operation with its last item in hand. -/
theorem witness_ScanVisitGivesOneResult :
    let fill := fun k => run.modEng fun e => { e with op := some { kind := .fill 5, n := 192, k := k } }
    let last := feeding.modEng fun e => { e with hand := some 0x8000 }
    ((fill 190).resetPin = false ∧ (fill 190).eng.op = some { kind := .fill 5, n := 192, k := 190 } ∧
      (OpKind.fill 5).isRead = false ∧ (OpKind.fill 5).isInput = false) ∧ ¬ 192 ≤ 190 + 1 ∧ 192 ≤ 191 + 1 ∧
      (last.eng.hand = some 0x8000 ∧ (OpKind.expand 700 0xFFFF true).isInput = true) := by decide +kernel

/-- One item needed and accepted; an item to take. -/
theorem witness_DataItemsJoinTheFifo :
    feeding.ready .b ∧ ((feeding.port .b).frame = .idle ∧ feeding.eng.fifo.length + [0x8000#16].length ≤ 16 ∧ 0 + 1 ≤ 1) ∧
      ((feeding.modEng fun e => { e with fifo := [1] }).eng.fifo = [1] ∧ feeding.eng.hand = none ∧
        feeding.eng.op = some { kind := .expand 700 0xFFFF true, n := 1, needed := 1, feeding := true }) ∧
      ∀ h l, (feeding.port .b).frame ≠ .holding (.dataByte h l) := by
  refine ⟨ready_of (by decide +kernel), by decide +kernel, by decide +kernel, ?_⟩
  intro h l e
  have : (feeding.port .b).frame = .idle := by decide +kernel
  rw [this] at e
  exact absurd e (by simp)

/-- A DATA frame at its code, at the first and the second byte of an item, with a refusal, held on a full FIFO; with the
operation FEEDING, at its end of count, and no longer FEEDING. -/
theorem witness_DataItemsJoinTheFifo_bytes :
    let frame := fun (d : DataFrame) (s : State) => s.modPort .b fun pt => { pt with frame := .write, code := some 0x3B, data := d }
    let full := feeding.modEng fun e => { e with fifo := List.replicate 16 1 }
    let ended := feeding.modEng fun e => { e with op := e.op.map fun o => { o with feeding := false, accepted := 1 } }
    let held := full.modPort .b fun pt => { pt with frame := .holding (.dataByte 1 2), code := some 0x3B, data := { fed := true } }
    (run.resetPin = false ∧ run.feeding = false ∧ feeding.feeding = true ∧ ended.feeding = false) ∧
      ((writing none 0).port .b).code = none ∧
      (((frame {} feeding).port .b).frame = .write ∧ ((frame {} feeding).port .b).data.fed = false ∧
        ((frame { fed := true } feeding).port .b).data.high = none ∧
        ((frame { fed := true, high := some 1 } feeding).port .b).data.high = some 1 ∧
        ((frame { fed := true, full := true } ended).port .b).data.full = true) ∧
      ((ended.eng.op.map fun o => decide (o.needed ≤ o.accepted)) = some true ∧ feeding.eng.fifo.length < 16 ∧
        16 ≤ full.eng.fifo.length ∧ (full.portCfg .b).holds = true ∧
        ({ full with tables := { full.tables with ports := full.tables.ports.set 1 { addr := 0x3A, holds := false } } }
          : State).portCfg .b = { addr := 0x3A, holds := false }) ∧
      ((held.port .b).frame = .holding (.dataByte 1 2) ∧ held.eng.hand = none ∧ held.eng.fifo = 1 :: List.replicate 15 1) := by
  decide +kernel

/-- Fifteen items leave room for one; sixteen are drained in one reply, seventeen would not be. -/
theorem witness_ReadItemsAreProducedAndDrained :
    let r := fun k items => reading.modEng fun e => { e with fifo := items, op := some { kind := .read 1, n := 1, k := k } }
    (r 0 (List.replicate 15 0)).ready .b ∧ ((r 0 (List.replicate 15 0)).mode = .run ∧
      (r 0 (List.replicate 15 0)).eng.fifo.length < 16 ∧ (0 < 1 ∧ 1 ≤ 1)) ∧
      ((r 1 (List.replicate 16 0)).eng.fifo ≠ [] ∧ (r 1 (List.replicate 16 0)).eng.fifo.length ≤ 16) ∧
      run.ready .b ∧ run.eng.op = none :=
  ⟨ready_of (by decide +kernel), by decide +kernel, by decide +kernel, ready_of (by decide +kernel), by decide +kernel⟩

/-- A FEEDING operation with nothing held and with an item held, a RUNNING one, and one that takes no items. -/
theorem witness_AbortAndFeedTimeout :
    feeding.ready .b ∧ (feeding.mode = .run ∧ feeding.eng.fifo = [] ∧ feeding.eng.hand = none ∧ feeding.eng.feed = .running 10000 ∧
      (feeding.modEng fun e => { e with fifo := [1] }).eng.fifo ≠ [] ∧ run.eng.op = none ∧
      ((feeding.modEng fun e => { e with op := e.op.map fun o => { o with feeding := false } }).eng.op.map fun o => o.feeding) =
        some false ∧ (OpKind.fill 5).isInput = false) :=
  ⟨ready_of (by decide +kernel), by decide +kernel⟩

/-- The last record of each table is accepted or read, the one after it is not; RUN refuses. -/
theorem witness_ConfigurationIsWrittenAndRead :
    (State.reset.tables.write 2 7 [0, 100, 0, 60, 1]).isSome = true ∧ State.reset.tables.write 2 8 [0, 100, 0, 60, 1] = none ∧
      State.reset.tables.write 2 7 [0, 100, 0, 9, 1] = none ∧ (State.reset.tables.read 1 1535).isSome = true ∧
      State.reset.tables.read 1 1536 = none ∧ State.reset.mode = .unconfigured ∧ run.mode = .run := by decide +kernel

theorem witness_StoredRecordsReadBack :
    (State.reset.tables.write 3 63 [2]).isSome = true ∧ (State.reset.tables.write 7 0 [0xFF]).isSome = true ∧
      ((1 : Word16) ≠ 0 ∧ (3 : Byte) ≠ 7) := by decide +kernel

/-- A VENT record of line D with a bus address and a facing. -/
def ventBytes (bus fh fl : Byte) : List Byte := [1, 3, bus, 2, 7, fh, fl, 0x13, 0x88, 50, 0x03, 0xE8, 0x02, 0x58, 0, 0, 1]

/-- A VENT record with mapped = no takes any other field; a facing of 3599 or FLAT and bus 48 are in range, bus 49 is not. -/
theorem witness_StoredRecordsReadBack_vent :
    (decodeVent [0, 9, 0, 9, 9, 9, 9, 9, 9, 99, 9, 9, 9, 9, 9, 9, 9]).isSome = true ∧
      (decodeVent (ventBytes 48 0x0E 0x0F)).isSome = true ∧ (decodeVent (ventBytes 48 0xFF 0xFF)).isSome = true ∧
      (decodeVent (ventBytes 49 0 0)).isSome = false := by
  refine ⟨?_, ?_, ?_, ?_⟩ <;> decide

/-- A LINE record with K_fire below K_norm, 0 included, is stored with K_norm; 16 is in range, 17 is not. -/
theorem witness_StoredRecordsReadBack_line :
    let line := fun kf : Byte => (decodeLine [8, kf, 1, 0, 0, 15, 1, 1, 2, 2, 255]).map fun l => l.kFire
    line 1 = some 8 ∧ line 0 = some 8 ∧ line 16 = some 16 ∧ line 17 = none := by decide +kernel

/-- A WEATHER record with V_off above V_on, above 600 included, is stored with V_on; a PORT with enables of all ones keeps bits
0–9. -/
theorem witness_StoredRecordsReadBack_weather_port :
    let weather := fun hi lo : Byte => (decodeWeather [2, 0, 0, 100, hi, lo, 0, 0, 0, 0, 0, 0, 0, 0, 0]).map fun w => w.vOff
    weather 0x02 0x58 = some 100 ∧ weather 0xFF 0xFF = some 100 ∧ weather 0 99 = some 99 ∧
      ((decodePort [127, 127, 1, 100, 0xFF, 0xFF, 3]).map fun p => p.enables) = some 0x03FF := by decide +kernel

/-- Two mapped slots with one line and bus address clash at the higher index; with one vent nothing clashes. -/
theorem witness_ConfigurationDoneEntersRun :
    let two := cfg 18 vent (cfg 17 vent State.reset)
    (State.reset.ready .b ∧ State.reset.FreshOk) ∧ (two.mode = .unconfigured ∧ (two.vent 18).mapped = true ∧ (17 : SlotId) < 18 ∧
      (two.vent 17).mapped = true ∧ (two.vent 17).line = (two.vent 18).line ∧ (two.vent 17).bus = (two.vent 18).bus) ∧
      ∀ i, (State.reset.vent i).mapped = false :=
  ⟨⟨ready_of (by decide +kernel), fresh_reset⟩, by decide +kernel, by
    intro i; simp [State.reset, State.hardwareReset, State.vent, Tables.reset]⟩

theorem witness_WarmRestartKeepsTheConfiguration :
    run.ready .b ∧ run.mode = .run ∧ feeding.eng.op ≠ none ∧ run.eng.op = none ∧ (run.dline .a).state = .run ∧
      ((run.modDline .a fun d => { d with state := .lreset }).dline .a).state = .lreset :=
  ⟨ready_of (by decide +kernel), rfl, by decide +kernel, by decide +kernel, by decide +kernel, by decide +kernel⟩

/-- A mapped and an unmapped slot. -/
theorem witness_WarmRestartKeepsTheConfiguration_slots :
    ((one online).vent 17).mapped = true ∧ ((one online).vent 18).mapped = false := by decide +kernel

/-- A hardware reset at the front of the queue of a part in RUN. -/
theorem witness_OnlyConfigurationChangesTablesAndMode :
    ∃ t, step { run with pending := [.hardwareReset 0] } = .next t ∧ t.mode ≠ run.mode :=
  ⟨_, rfl, by decide⟩

theorem witness_EngineLawIsKeptByEveryStep :
    (State.reset.eng.Ok ∧ run.eng.Ok) ∧ ∃ t, step { run with pending := [.opFill .b 5] } = .next t := by
  refine ⟨?_, _, rfl⟩
  constructor <;> simp [Engine.Ok, run, State.reset, State.hardwareReset]

theorem witness_ZoneAndWeatherLawsAreKeptByEveryStep :
    (run.AlarmsOk ∧ run.wx.Ok ∧ run.tables.weather.rainHold ≤ 255 ∧ ∀ z, (run.zone z).Ok) ∧
      ∃ t, step { run with pending := [.alarm .f 0] } = .next t := by
  refine ⟨⟨by unfold State.AlarmsOk; decide, ?_, by decide, ?_⟩, _, rfl⟩
  · unfold Weather.Ok; decide +kernel
  · unfold Zone.Ok; decide +kernel

/-- A slot in a permit queue. -/
def queued : Slot := { online with motion := .queued, cls := some 1, entryTime := some 1 }

/-- A part in RUN with a QUEUED slot in its line's queue, in a zone in EXHAUST. -/
def waiting : State := (exhausting queued).modMline .a fun m => { m with queue := [17], entryCount := 1 }

theorem waiting_slot (j : SlotId) : waiting.slot j = if 17 = j then queued else {} := one_slot _ j

theorem waiting_onLine (l : LineId) (x : Trans) : ¬ waiting.onLine l x := exhausting_onLine queued l x

theorem waiting_mapped : waiting.MappedOk := exhausting_mapped queued

theorem waiting_areas : waiting.AreasOk := by intro _; decide +kernel

theorem witness_PermitQueueLawIsKeptByEveryStep :
    (waiting.QueueOk ∧ waiting.TimersOk ∧ waiting.FreshOk ∧ waiting.PermitOk ∧ waiting.MappedOk ∧ waiting.AreasOk) ∧
      ∃ t, step { waiting with pending := [.dwellTimerExpiry 17] } = .next t := by
  refine ⟨⟨?_, ?_, ?_, ⟨?_, ?_⟩, waiting_mapped, waiting_areas⟩, _, rfl⟩
  · intro l; cases l <;> decide +kernel
  · intro i
    rw [waiting_slot]
    split <;> simp [queued, online]
  · intro h; cases h
  · intro i
    rw [waiting_slot]
    split
    · next e => subst e; decide +kernel
    · simp [Motion.holds]
  · intro l; cases l <;> decide +kernel

/-- The law of the links holds in the same state, and is met by one that is PROFILING. -/
theorem witness_ZoneAndWeatherLawsAreKeptByEveryStep_links :
    (waiting.FreshOk ∧ waiting.MappedOk ∧ waiting.ProfileOk) ∧
      (let s := fly { trans := .profile 17 3, phase := .waiting 4 } (profiled { link := .profiling, profileNext := some 3 })
      (s.slot 17).link = .profiling ∧ (s.slot 17).profileNext = some 3 ∧ s.validEntry 17 3 = true ∧
        s.profilesOn .a 17 = 1) ∧
      ∃ t, step { waiting with pending := [.framingError] } = .next t := by
  refine ⟨⟨(fun h => nomatch h), waiting_mapped, fun i hi => ?_, fun l i e h => absurd h (waiting_onLine l _), fun l i => ?_⟩,
    by decide +kernel, _, rfl⟩
  · rw [waiting_slot] at hi
    split at hi <;> exact absurd hi (by decide)
  · have h : (waiting.dline l).queue = [] ∧ (waiting.dline l).flight = none := by cases l <;> decide +kernel
    simp [State.profilesOn, h.1, h.2]

/-- The law of the areas holds with a zone in EXHAUST. -/
theorem witness_ZoneAndWeatherLawsAreKeptByEveryStep_areas :
    ((exhausting faulted).FreshOk ∧ (exhausting faulted).QueueOk ∧ (exhausting faulted).TimersOk ∧
        (exhausting faulted).MappedOk ∧ (exhausting faulted).AreasOk) ∧
      (((exhausting faulted).zone 0).action = .exhaust ∧ ((exhausting faulted).zone 0).latch = false) ∧
      ∃ t, step { exhausting faulted with pending := [.framingError] } = .next t := by
  refine ⟨⟨(fun h => nomatch h), faulted_queueOk, fun i => ?_, exhausting_mapped _, faulted_areasOk⟩, by decide +kernel, _, rfl⟩
  rw [exhausting_slot]
  split <;> simp [faulted, online]

/-- The order of the queues holds with one entry waiting. -/
theorem witness_PermitQueueLawIsKeptByEveryStep_order : waiting.OrderOk ∧ (waiting.mline .a).queue ≠ [] := by
  refine ⟨fun l => ?_, by decide +kernel⟩
  have hq : (waiting.mline l).queue = if l = .a then [17] else [] := by cases l <;> decide +kernel
  refine ⟨fun i hi => ?_, by cases l <;> decide +kernel⟩
  rw [hq] at hi
  split at hi
  · next e =>
    subst e
    rw [List.mem_singleton.mp hi]
    exact ⟨by decide +kernel, 1, by decide +kernel, by decide +kernel⟩
  · exact absurd hi (List.not_mem_nil)

/-- The law of the moves is met with nothing pending, and with a MOVE pending for a holder on an ACTIVE line. -/
theorem witness_PermitQueueLawIsKeptByEveryStep_moves :
    waiting.MovesOk ∧
      (let s := fly { trans := .move 17 300 false } (one { online with motion := .starting, permit := true })
      (s.slot 17).permit = true ∧ (s.mline .a).power = .active) := by
  refine ⟨⟨fun l i target fast h => absurd (Or.imp_right ?_ h) (waiting_onLine l (.move i target fast)), ?_⟩, by decide +kernel⟩
  · exact fun ⟨f, h1, _, h2, h3⟩ => ⟨f, h1, h2, h3⟩
  · intro l; cases l <;> decide +kernel

end Sys2Proof.Tests
end

