-- ==== Sys2Proof/Proofs/SmoothingAndClasses.lean ====
section
/-!
PROOFS. The arithmetic of the Weather Processor: the difference of two directions, smoothing, wind classes and ceilings
(R78, R79, R84, R85).
-/

namespace Sys2Proof.Machine

/-! ## The difference of two directions -/

/-- The difference is `a - b` up to whole turns (R78). -/
theorem angleDiff_emod (a b : Nat) : ((a : Int) - b) % 3600 = angleDiff a b % 3600 := by
  unfold angleDiff
  omega

/-! ## Smoothing -/

/-- R78 without the passage to `Nat`: the formula is an angle, so nothing is lost. -/
theorem smoothDir_eq (k sdir theta : Nat) :
    (smoothDir k sdir theta : Int) = ((sdir : Int) + (angleDiff theta sdir).tdiv (2 ^ k) + 3600) % 3600 :=
  Int.toNat_of_nonneg (Int.emod_nonneg _ (by decide))

/-- With `k = 0` the step is the whole difference, so the smoothed direction is the record's. -/
theorem smoothDir_zero {theta : Nat} (sdir : Nat) (htheta : theta < 3600) : smoothDir 0 sdir theta = theta := by
  have hformula := smoothDir_eq 0 sdir theta
  have hturns := angleDiff_emod theta sdir
  rw [pow_zero, Int.tdiv_one] at hformula
  omega

/-- R79 without the passage to `Nat`: a step truncated toward zero never takes the speed below 0. -/
theorem smoothSpeed_eq (k sv v : Nat) : (smoothSpeed k sv v : Int) = (sv : Int) + ((v : Int) - sv).tdiv (2 ^ k) := by
  have hstep := tdiv_between ((v : Int) - sv) k
  exact Int.toNat_of_nonneg (by omega)

/-- With `k = 0` the smoothed speed is the record's. -/
theorem smoothSpeed_zero (sv v : Nat) : smoothSpeed 0 sv v = v := by
  have hformula := smoothSpeed_eq 0 sv v
  rw [pow_zero, Int.tdiv_one] at hformula
  omega

/-! ## Wind classes and ceilings -/

section
variable {c : WeatherCfg} {w : Weather} {phi : Nat}

/-- No live weather, or a closed gate, makes every slot CALM (R84). -/
theorem classify_calm (h : w.live = false ∨ w.gate = false) (f : Facing) : classify c w f = .calm := by
  rcases h with h | h <;> simp [classify, h]

/-- With live weather and an open gate a flat vent is CROSS (R84). -/
theorem classify_flat (hlive : w.live = true) (hgate : w.gate = true) : classify c w .flat = .cross := by
  simp [classify, hlive, hgate]

/-- With live weather and an open gate, the angle between facing and wind decides the class (R84). -/
theorem classify_angle (hlive : w.live = true) (hgate : w.gate = true) :
    classify c w (.angle phi) =
      if (angleDiff phi w.sdir).natAbs < c.wHalf then .windward
      else if 1800 - c.lHalf < (angleDiff phi w.sdir).natAbs then .leeward else .cross := by
  simp [classify, hlive, hgate]

/-- The three tests that give a ceiling of 0 as one condition (R85). -/
theorem ceilingOf_eq (cls : WindClass) :
    ceilingOf c w cls =
      if w.live = false ∨ w.rain = .active ∨ w.storm = .active then 0 else if cls = .windward then c.cWind else 1000 := by
  unfold ceilingOf
  cases hlive : w.live with
  | false => simp
  | true =>
    by_cases hrain : w.rain = .active
    · simp [hrain]
    · by_cases hstorm : w.storm = .active <;> simp [hrain, hstorm]

end

/-- Settles O44, from the bounds of the difference and of a truncated step, and the classes row by row. -/
theorem smoothingAndClasses : Obligations.SmoothingAndClasses := by
  refine ⟨fun a b => ?difference, fun k sdir theta _ htheta => ?direction, fun k sv v => ?speed, fun c w phi => ?classes⟩
  case difference =>
    obtain ⟨hlow, hhigh⟩ := angleDiff_bounds a b
    exact ⟨hlow, hhigh, angleDiff_emod a b⟩
  case direction => exact ⟨smoothDir_lt k sdir theta, smoothDir_eq k sdir theta, smoothDir_zero sdir htheta⟩
  case speed =>
    obtain ⟨hlow, hhigh⟩ := smoothSpeed_between k sv v
    exact ⟨hlow, hhigh, smoothSpeed_eq k sv v, smoothSpeed_zero sv v⟩
  case classes =>
    refine ⟨classify_calm, fun hlive hgate => ⟨classify_flat hlive hgate, ?_, ?_, ?_⟩, ceilingOf_eq⟩
    · intro hwind
      rw [classify_angle hlive hgate, if_pos hwind]
    · intro hwind hlee
      rw [classify_angle hlive hgate, if_neg (Nat.not_lt.mpr hwind), if_pos hlee]
    · intro hwind hlee
      rw [classify_angle hlive hgate, if_neg (Nat.not_lt.mpr hwind), if_neg (Nat.not_lt.mpr hlee)]

end Sys2Proof.Machine
end

