-- ==== Sys2Proof/Proofs/EvaluationAndPermitClass.lean ====
section
/-!
PROOFS. Evaluation and permit classes of the Motion Controller (R90, R91): when a slot needs a move, and what the model's
distance and end flag test mean.
-/

namespace Sys2Proof.Machine

/-! ## Evaluation -/

/-- The distance, taken without a sign in the model, is the size of the integer difference. -/
theorem gap_eq_natAbs (a b : Nat) : gap a b = ((a : Int) - b).natAbs := by
  unfold gap
  split <;> omega

/-- The end flag test fails exactly when neither flag agrees with the target (R90, last condition). -/
theorem endFlagAgrees_eq_false_iff (r : Slot) (target : Nat) :
    r.endFlagAgrees target = false ↔
      ¬ (r.atOpen = true ∧ target = 1000) ∧ ¬ (r.atClosed = true ∧ target = 0) := by
  rw [← Bool.not_eq_true]
  simp only [Slot.endFlagAgrees, Bool.or_eq_true, Bool.and_eq_true, beq_iff_eq, not_or]

section
variable {v : VentCfg} {r : Slot} {target position : Nat}

/-- A slot without a composed target is in place (R90). -/
theorem needsMove_noTarget (htarget : r.target = none) : needsMove v r = none := by
  simp only [needsMove, htarget]

/-- A slot whose position is not known is in place (R90). -/
theorem needsMove_noPosition (hposition : r.position = none) : needsMove v r = none := by
  cases htarget : r.target <;> simp only [needsMove, htarget, hposition]

/-- With target and position known, the other conditions of R90 decide, and the sign of the difference gives the direction. -/
theorem needsMove_known (htarget : r.target = some target) (hposition : r.position = some position) (d : Direction) :
    needsMove v r = some d ↔
      (v.mapped = true ∧ r.link = .online ∧ r.motion ≠ .fault ∧ v.deadband < gap target position ∧
        r.endFlagAgrees target = false) ∧ d = if position < target then .opening else .closing := by
  simp only [needsMove, htarget, hposition, Option.ite_none_right_eq_some, Option.some.injEq, eq_comm (a := d)]

end

/-- R90 in full: a slot needs a move exactly when all the conditions hold at once. -/
theorem needsMove_eq_some_iff (v : VentCfg) (r : Slot) (d : Direction) :
    needsMove v r = some d ↔
      v.mapped = true ∧ r.link = .online ∧ r.motion ≠ .fault ∧
        ∃ target position, r.target = some target ∧ r.position = some position ∧
          v.deadband < ((target : Int) - position).natAbs ∧
          ¬ (r.atOpen = true ∧ target = 1000) ∧ ¬ (r.atClosed = true ∧ target = 0) ∧
          d = if position < target then .opening else .closing := by
  constructor
  · intro hmove
    cases htarget : r.target with
    | none => rw [needsMove_noTarget htarget] at hmove; cases hmove
    | some target =>
      cases hposition : r.position with
      | none => rw [needsMove_noPosition hposition] at hmove; cases hmove
      | some position =>
        obtain ⟨⟨hmapped, hlink, hmotion, hfar, hflag⟩, hdir⟩ := (needsMove_known htarget hposition d).mp hmove
        obtain ⟨hopen, hclosed⟩ := (endFlagAgrees_eq_false_iff r target).mp hflag
        rw [gap_eq_natAbs] at hfar
        exact ⟨hmapped, hlink, hmotion, target, position, rfl, rfl, hfar, hopen, hclosed, hdir⟩
  · rintro ⟨hmapped, hlink, hmotion, target, position, htarget, hposition, hfar, hopen, hclosed, hdir⟩
    rw [← gap_eq_natAbs] at hfar
    have hflag := (endFlagAgrees_eq_false_iff r target).mpr ⟨hopen, hclosed⟩
    exact (needsMove_known htarget hposition d).mpr ⟨⟨hmapped, hlink, hmotion, hfar, hflag⟩, hdir⟩

/-! ## Permit classes -/

/-- The table of R91: OVR and FIRE take class 0 in both directions, the other two sources go by the direction. -/
theorem permitClass_eq (src : Source) (d : Direction) :
    permitClass src d = if src = .ovr ∨ src = .fire then 0 else if d = .closing then 1 else 2 := by
  cases src with
  | ovr => rfl
  | fire => rfl
  | bms => cases d <;> rfl
  | rest => cases d <;> rfl

/-- Settles O25, from R90 read on a slot's own configuration and record, and the table of R91. -/
theorem evaluationAndPermitClass : Obligations.EvaluationAndPermitClass :=
  ⟨fun s i d => needsMove_eq_some_iff (s.vent i) (s.slot i) d, permitClass_eq⟩

end Sys2Proof.Machine
end

