-- ==== Sys2Proof/Proofs/ScanOrderAndRequests.lean ====
section
/-!
PROOFS. Scan order and requests of the Window Engine: the slot of a row and a column (R1, R138), the keys of a value (R139),
and the request each kind of operation makes of a slot (R142–R147).
-/

namespace Sys2Proof.Machine

/-! ## Scan order -/

/-- Within the grid no row or column wraps: slots are numbered along the rows (R1). -/
theorem slotAt_val {r c : Nat} (hr : r < 12) (hc : c < 16) : (slotAt r c).val = r * 16 + c :=
  Nat.mod_eq_of_lt (by omega)

/-- R138 in the quantities of the window: the offsets by the major flag, taken from either end of the rows and columns. -/
theorem slotOf_eq (w : Window) (k : Nat) :
    w.slotOf k =
      slotAt
        (if w.my then w.ye - (if w.mv then k % w.height else k / w.width)
          else w.ys + (if w.mv then k % w.height else k / w.width))
        (if w.mx then w.xe - (if w.mv then k / w.height else k % w.width)
          else w.xs + (if w.mv then k / w.height else k % w.width)) := rfl

/-! ## The keys of a value -/

section
variable {v : Word16}

/-- A value of 0 to 1000 is set as it is (R139). -/
theorem requestOf_set (h : v.toNat ≤ 1000) : requestOf v = .set v.toNat := if_pos h

/-- A value above 1000 that is no key is clamped to 1000 (R139). -/
theorem requestOf_clamped (hlow : 1000 < v.toNat) (hhigh : v.toNat < 0xFFFE) : requestOf v = .set 1000 := by
  rw [requestOf, if_neg (Nat.not_le.mpr hlow), if_pos (Nat.le_of_lt_succ hhigh)]

end

/-- 0xFFFE clears (R139). -/
theorem requestOf_clear : requestOf 0xFFFE = .clear := rfl

/-- 0xFFFF leaves the slot as it stands (R139). -/
theorem requestOf_leave : requestOf 0xFFFF = .leave := rfl

/-! ## The request of each kind of operation -/

/-- R147 as a comparison: the bit of the code at place `2 S + D` says whether an entry is to be present; where one is present
or absent already, the slot is left. -/
theorem maskRequest_eq (code : Fin 16) (fore : Nat) (marked d : Bool) :
    maskRequest code fore marked d =
      if d = code.val.testBit (2 * bit marked + bit d) then .leave else if d then .clear else .set fore := by
  unfold maskRequest
  cases d <;> cases code.val.testBit _ <;> rfl

namespace State

variable {s : State} {o : Op}

/-- OP_FILL makes the same request of every slot (R142). -/
theorem requestAt_fill {v : Word16} (hkind : o.kind = .fill v) (item : Word16) : s.requestAt o item = requestOf v := by
  simp only [requestAt, hkind]

/-- OP_PATTERN reads the tile at the slot's row and column modulo 4 (R143). -/
theorem requestAt_pattern (hkind : o.kind = .pattern) (item : Word16) {r c : Nat} (hr : r < 4) (hc : c < 4)
    (hrow : (s.eng.window.slotOf o.k).val / 16 % 4 = r) (hcol : (s.eng.window.slotOf o.k).val % 16 % 4 = c) :
    s.requestAt o item = requestOf (s.eng.tile[r * 4 + c]'(by omega)) := by
  have hplace : (Fin.ofNat 16 (r * 4 + c)).val = r * 4 + c := Nat.mod_eq_of_lt (by omega)
  simp only [requestAt, hkind, hrow, hcol, Fin.getElem_fin, hplace]

/-- OP_COPY passes on what its snapshot holds for the step (R144). -/
theorem requestAt_copy {row col : Nat} {q : Request} (hkind : o.kind = .copy row col) (item : Word16)
    (hsnap : s.eng.snapshot[o.k]? = some q) : s.requestAt o item = q := by
  simp only [requestAt, hkind, List.getD_eq_getElem?_getD, hsnap, Option.getD_some]

/-- OP_EXPAND makes the request of F or of B by the slot's bit; keyed, a bit of 0 leaves the slot (R145). -/
theorem requestAt_expand {f b : Word16} {keyed : Bool} (hkind : o.kind = .expand f b keyed) (item : Word16) :
    s.requestAt o item =
      if itemBit item (o.k % 16) then requestOf f else if keyed then .leave else requestOf b := by
  simp only [requestAt, hkind, expandRequest]

/-- OP_BLOCK reads each item as the value for one slot (R146). -/
theorem requestAt_block (hkind : o.kind = .block) (item : Word16) : s.requestAt o item = requestOf item := by
  simp only [requestAt, hkind]

/-- OP_MASK combines the slot's bit with the presence of its BMS entry (R147). -/
theorem requestAt_mask {code : Fin 16} {f : Nat} (hkind : o.kind = .mask code f) (item : Word16) :
    s.requestAt o item =
      maskRequest code f (itemBit item (o.k % 16)) (s.slot (s.eng.window.slotOf o.k)).bms.isSome := by
  simp only [requestAt, hkind]

end State

/-- Settles O47, from the scan order, the four keys of R139, and one lemma for each kind of operation. -/
theorem scanOrderAndRequests : Obligations.ScanOrderAndRequests := by
  refine ⟨slotOf_eq, fun r c => slotAt_val, fun v => ⟨requestOf_set, requestOf_clamped, ?clear, ?leave⟩,
    fun s o item => ⟨?fill, ?pattern, ?copy, ?expand, ?block, ?mask⟩⟩
  case clear => rintro rfl; exact requestOf_clear
  case leave => rintro rfl; exact requestOf_leave
  case fill => exact fun v hkind => State.requestAt_fill hkind item
  case pattern => exact fun r c hr hc hkind => State.requestAt_pattern hkind item hr hc
  case copy => exact fun row col q hkind => State.requestAt_copy hkind item
  case expand => exact fun f b keyed hkind => State.requestAt_expand hkind item
  case block => exact fun hkind => State.requestAt_block hkind item
  case mask =>
    intro code f hkind
    rw [State.requestAt_mask hkind]
    exact maskRequest_eq code f _ _

end Sys2Proof.Machine
end
